-- ==== Sys2Proof/Word.lean ====
section
/-! DEFINITION. The word types of the UJ-620: a byte of the line link and the 24-bit travel count. -/

namespace Sys2Proof

/-- One byte on the line link (R1, R178). -/
abbrev Byte := BitVec 8

/-- A value of the travel count T or of a butt count B (R30, R48): 24 bits, wrapping. -/
abbrev Travel := BitVec 24

end Sys2Proof
end

