-- ==== Sys2Proof/Config.lean ====
section
/-! DEFINITION. The fixed capacities and times of the part, and the one value its spec leaves unstated. -/

namespace Sys2Proof.Config

/-- START byte (R2). -/
def startByte : Byte := 0xB6#8
/-- ESC byte (R2). -/
def escByte : Byte := 0xB7#8
/-- IDLE byte (R1). -/
def idleByte : Byte := 0xB8#8
/-- A byte lasts 5 µs on the wire (R1). -/
def byteTime : Nat := 5
/-- The byte gap after which a frame in reception is aborted, µs (R4). -/
def gapLimit : Nat := 50
/-- The largest payload length (R2, R6). -/
def maxPayload : Nat := 120
/-- The bytes a forward queue holds (R10, R11). -/
def forwardCapacity : Nat := 1024
/-- The slots of the reply queue (R168). -/
def replySlots : Nat := 8
/-- The top value of a counter (R174). -/
def counterTop : Nat := 65535
/-- The records the log queue holds (R47). -/
def maxRecords : Nat := 16
/-- The address of an unconfigured controller (R8). -/
def unconfigured : Byte := 254#8
/-- The broadcast address (R8). -/
def broadcast : Byte := 255#8
/-- The copy engine moves one item every 40 µs (R83). -/
def copyStep : Nat := 40
/-- The illegal transitions in one window that fail the encoder (R32). -/
def illegalLimit : Nat := 8
/-- The time a rotor pulse line stays high before the pulse is taken, µs (R38). -/
def pulseHold : Nat := 50
/-- The time without a pulse after which a rotor reads 0, µs (R39). -/
def rotorSilence : Nat := 2000000
/-- The speed window while the line record is absent, µs (R34). -/
def defaultWindow : Nat := 100000
/-- What a report limit adds to the report timeout, µs (R150). -/
def reportLimitExtra : Nat := 250
/-- What a reply limit adds to the report timeout, µs (R160). -/
def replyLimitExtra : Nat := 1280
/-- The missing reports in succession that make a node SILENT (R153). -/
def silentAt : Nat := 3
/-- The consecutive head misses at which a head is discarded (R157). -/
def missLimit : Nat := 3
/-- The consecutive CLOSE compositions from which a channel is supervised (R134). -/
def graceCycles : Nat := 4
/-- The item code of the trim table in TABLE_READ (R178, section 10.5). -/
def trimItem : Nat := 255

/-- DESIGN CHOICE (log 16), safe. What the two speed bytes of the STATUS body carry for a rotor
speed above 65535 rpm: the spec gives the speed no bound (R39) and the field two bytes (R178), and
states no value. A free value: it has no body. -/
opaque wideSpeed : Nat → BitVec 16

end Sys2Proof.Config
end

