-- ==== Sys2Proof/Syntax.lean ====
section
/-! DEFINITION. The commands of the UJ-620: one constructor of `Instr` per row of the table of
operations and events, with the operands the row's governing rule says the step takes in. -/

namespace Sys2Proof

/-- The two link ports (section 1). -/
inductive Port where
  | u
  | d
deriving DecidableEq, Repr

/-- The two stations, and with them rotor, eye and valve driver node 1 and 2. -/
inductive Station where
  | one
  | two
deriving DecidableEq, Repr

/-- A good frame as the receiver hands it over (R7) and as a forward queue stores it (R10): the
header fields and the payload. The header's length field is the payload's length. -/
structure Frame where
  dest    : Byte
  src     : Byte
  kind    : Byte
  payload : List Byte
deriving DecidableEq, Repr

/-- The 50 steps of the part (opcode_table.json). A request row carries the source address of its
REQUEST frame and its request number (R165); its destination is the controller's own address. -/
inductive Instr where
  /-- HARDWARE_RESET (R16): the levels of encoder A, encoder B and the trip line at its end. -/
  | hardwareReset (a b trip : Bool)
  /-- RECEIVE_BYTE (R3): a byte ends on a port's receiver. -/
  | receiveByte (port : Port) (byte : Byte)
  /-- BYTE_GAP_TIMEOUT (R4): the 50 µs gap runs out on a port. -/
  | byteGapTimeout (port : Port)
  /-- FORBIDDEN_KIND (R9): a good Port U frame that the routing table discards. -/
  | forbiddenKind (f : Frame)
  /-- FORWARD_DOWNSTREAM (R10): a good Port U frame offered to the downstream forward queue. -/
  | forwardDownstream (f : Frame)
  /-- LOG_SCAN (R50): a good LOG_SCAN frame on Port U. -/
  | logScan (dest src : Byte) (payload : List Byte)
  /-- LOG_VOID (R55): a good LOG_VOID frame on Port U. -/
  | logVoid (dest src : Byte) (payload : List Byte)
  /-- UPSTREAM_ARBITRATION (R13): the IDLE byte or frame on the Port U wire ends. -/
  | upstreamArbitration
  /-- PORT_D_FRAME_END (R14): the last byte of the frame on the Port D wire ends. -/
  | portDFrameEnd
  /-- REQUEST_OVERFLOW (R170): a request handed over while all reply slots are taken. -/
  | requestOverflow (src : Byte) (payload : List Byte)
  /-- BAD_FORM (R165): a request too short, or with a body length its code does not have. -/
  | badForm (src : Byte) (payload : List Byte)
  /-- UNKNOWN_REQUEST (R165): a request whose code names none. -/
  | unknownRequest (src num code : Byte) (body : List Byte)
  /-- LINE_LOAD (R24): the 46-byte line record image. -/
  | lineLoad (src num : Byte) (image : List Byte)
  /-- MODE_SET RUN (R17). -/
  | modeSetRun (src num : Byte)
  /-- MODE_SET FINISH (R19). -/
  | modeSetFinish (src num : Byte)
  /-- MODE_SET STOP (R22). -/
  | modeSetStop (src num : Byte)
  /-- MODE_SET CLEAR (R18). -/
  | modeSetClear (src num : Byte)
  /-- MODE_SET with an argument that is none of the four (R17). -/
  | modeSetBadArgument (src num arg : Byte)
  /-- AMBIENT_SET (R28): the two-byte signed value. -/
  | ambientSet (src num : Byte) (value : BitVec 16)
  /-- TABLE_OPEN clear (R81). -/
  | tableOpenClear (src num : Byte)
  /-- TABLE_OPEN copy (R82). -/
  | tableOpenCopy (src num : Byte)
  /-- TABLE_OPEN with an argument that is neither (R80). -/
  | tableOpenBadArgument (src num arg : Byte)
  /-- TABLE_ENTRY (R85): the 46-byte species entry image. -/
  | tableEntry (src num : Byte) (image : List Byte)
  /-- TABLE_TRIM (R78): the 20-byte trim image. -/
  | tableTrim (src num : Byte) (image : List Byte)
  /-- TABLE_CLOSE (R86). -/
  | tableClose (src num : Byte)
  /-- TABLE_SWAP (R87). -/
  | tableSwap (src num : Byte)
  /-- TABLE_READ (R92): bank code and item code. -/
  | tableRead (src num bank item : Byte)
  /-- ARM_RESTORE (R139): the arm channel. -/
  | armRestore (src num channel : Byte)
  /-- STATUS_READ (R172). -/
  | statusRead (src num : Byte)
  /-- LOG_LIST (R173). -/
  | logList (src num : Byte)
  /-- COUNTERS_READ with option 0 (R175). -/
  | countersRead (src num : Byte)
  /-- COUNTERS_READ with option 1 (R175). -/
  | countersReadClear (src num : Byte)
  /-- COUNTERS_READ with another option (R175). -/
  | countersReadBadOption (src num opt : Byte)
  /-- LINE_RESET (R176). -/
  | lineReset (src num : Byte)
  /-- ENCODER_TRANSITION (R30): the new levels of A and B. -/
  | encoderTransition (a b : Bool)
  /-- SPEED_WINDOW_END (R35). -/
  | speedWindowEnd
  /-- DWELL_SET (R36). -/
  | dwellSet
  /-- ROTOR_PULSE (R38): the rotor and the time of the rising edge, µs on the model's clock. -/
  | rotorPulse (r : Station) (edge : Nat)
  /-- ROTOR_TIMEOUT (R39). -/
  | rotorTimeout (r : Station)
  /-- EYE_EDGE (R42): the eye and the level its line has held for 2 ms. -/
  | eyeEdge (e : Station) (dark : Bool)
  /-- TRIP_INPUT_CHANGE (R46): the level the trip line has held for 2 ms. -/
  | tripInputChange (asserted : Bool)
  /-- COPY_ITEM (R83). -/
  | copyItem
  /-- CYCLE_START (R145, R146): the start that is due at a moment, µs on the model's clock (log 36). Written
  without its operand it is the start due at 0, which no cycle has. -/
  | cycleStart (due : Nat := 0)
  /-- REPORT_TIMEOUT (R149). -/
  | reportTimeout
  /-- REPORT_LIMIT (R150). -/
  | reportLimit
  /-- ARM_REPORT (R152): a good frame of kind ARM_REPORT on Port D. -/
  | armReport (dest src : Byte) (payload : List Byte)
  /-- REPLY_FROM_STATION (R159): a good frame on Port D during a reply wait. -/
  | replyFromStation (f : Frame)
  /-- REPLY_TIMEOUT (R159). -/
  | replyTimeout
  /-- REPLY_LIMIT (R160). -/
  | replyLimit
  /-- UNSOLICITED (R155): a good frame on Port D that no wait accepts. -/
  | unsolicited (f : Frame)
deriving DecidableEq, Repr

end Sys2Proof
end

