-- ==== Sys2Proof/Machine/Forms.lean ====
section
/-! DEFINITION. The form of a request: the body length Chapter 10 fixes for each request code, and the
kinds of frame the routing table sends downstream. -/

namespace Sys2Proof

/-- The body length Chapter 10 fixes for a request code (R178, section 10.5), if the code names a
request (section 9.1). -/
def bodyLength? (code : Nat) : Option Nat :=
  match code with
  | 1 => some 46
  | 2 => some 1
  | 3 => some 2
  | 4 => some 1
  | 5 => some 46
  | 6 => some 20
  | 7 => some 0
  | 8 => some 0
  | 9 => some 2
  | 10 => some 1
  | 11 => some 0
  | 12 => some 0
  | 13 => some 1
  | 14 => some 0
  | _ => none

/-- The kinds a frame for another station may have: REQUEST, REPLY, query and notice (R9). -/
def forwardKind (k : Byte) : Bool :=
  k == 0x20#8 || k == 0x21#8 || (decide (0x40 ≤ k.toNat) && decide (k.toNat ≤ 0x7F))

end Sys2Proof
end

