-- ==== Sys2Proof/WellFormed.lean ====
section
/-! DEFINITION. What a command's operands must satisfy to be the command its row names: lengths the
link can carry and arguments of the row's own sort. The meanings are total and do not rely on it. -/

namespace Sys2Proof

/-- A payload the link can carry: at most 120 bytes (R2). -/
def payloadOk (p : List Byte) : Bool := p.length ≤ Config.maxPayload

/-- A request payload that BAD_FORM answers (R165): shorter than two bytes, or with a code that names
a request and a body of another length. -/
def badFormPayload (p : List Byte) : Bool :=
  match p with
  | [] => true
  | [_] => true
  | _ :: code :: body =>
    match bodyLength? code.toNat with
    | none => false
    | some n => body.length != n

/-- A command's operands are of the sort its row names. -/
def Instr.wellFormed : Instr → Bool
  | .hardwareReset _ _ _ => true
  | .receiveByte _ _ => true
  | .byteGapTimeout _ => true
  | .forbiddenKind f => payloadOk f.payload
  | .forwardDownstream f => payloadOk f.payload && forwardKind f.kind
  | .logScan _ _ p => payloadOk p
  | .logVoid _ _ p => payloadOk p
  | .upstreamArbitration => true
  | .portDFrameEnd => true
  | .requestOverflow _ p => payloadOk p
  | .badForm _ p => payloadOk p && badFormPayload p
  | .unknownRequest _ _ code body => decide (body.length + 2 ≤ Config.maxPayload) && (bodyLength? code.toNat).isNone
  | .lineLoad _ _ image => image.length == 46
  | .modeSetRun _ _ => true
  | .modeSetFinish _ _ => true
  | .modeSetStop _ _ => true
  | .modeSetClear _ _ => true
  | .modeSetBadArgument _ _ arg => decide (arg.toNat = 0) || decide (4 < arg.toNat)
  | .ambientSet _ _ _ => true
  | .tableOpenClear _ _ => true
  | .tableOpenCopy _ _ => true
  | .tableOpenBadArgument _ _ arg => decide (arg.toNat = 0) || decide (2 < arg.toNat)
  | .tableEntry _ _ image => image.length == 46
  | .tableTrim _ _ image => image.length == 20
  | .tableClose _ _ => true
  | .tableSwap _ _ => true
  | .tableRead _ _ _ _ => true
  | .armRestore _ _ _ => true
  | .statusRead _ _ => true
  | .logList _ _ => true
  | .countersRead _ _ => true
  | .countersReadClear _ _ => true
  | .countersReadBadOption _ _ opt => decide (1 < opt.toNat)
  | .lineReset _ _ => true
  | .encoderTransition _ _ => true
  | .speedWindowEnd => true
  | .dwellSet => true
  | .rotorPulse _ _ => true
  | .rotorTimeout _ => true
  | .eyeEdge _ _ => true
  | .tripInputChange _ => true
  | .copyItem => true
  | .cycleStart _ => true
  | .reportTimeout => true
  | .reportLimit => true
  | .armReport _ _ p => payloadOk p
  | .replyFromStation f => payloadOk f.payload
  | .replyTimeout => true
  | .replyLimit => true
  | .unsolicited f => payloadOk f.payload

end Sys2Proof
end

