-- ==== Sys2Proof/Decode.lean ====
section
/-! DEFINITION. The command a word spells by the table's bits. The UJ-620 has no instruction words:
no row of the table of operations and events gives bits (98_reader.md counts no row with fixed bits
or fields), so no word spells a command. -/

namespace Sys2Proof

/-- The command that a word of `nbits` bits spells. DEDUCED (log 24), safe: the table gives no row
any bits, so there is none. -/
def decodeTableWord (_nbits _w : Nat) : Option Instr := none

end Sys2Proof
end

