-- ==== Sys2Proof/Machine/State.lean ====
section
/-! DEFINITION. The state of the UJ-620 as plain data, grouped by the blocks of the block diagram, and
the state after hardware reset. The fields and their reset values are listed, with their rules, in
INVENTORY.md under State. -/

namespace Sys2Proof.Machine

/-- No condition of the spec stops the block: what it calls an error is counted, answered or turned
into a mode or a flag. Nobody raises a fault, and the type has no constructor (safe; log 23). -/
inductive Fault where
deriving DecidableEq, Repr

/-- Why a step has no meaning. -/
inductive Refusal where
  /-- Raised by an arm of `exec` for a row that has no meaning yet, by its mnemonic. Safe: nothing is
  claimed of such a row. No arm raises it. -/
  | notModelled (mnemonic : String)
deriving DecidableEq, Repr

/-- One value for each of two stations (or of their rotors, eyes and driver nodes). -/
structure Pair (α : Type) where
  one : α
  two : α
deriving DecidableEq, Repr

/-- The value of a station. -/
def Pair.get {α : Type} (p : Pair α) : Station → α
  | .one => p.one
  | .two => p.two

/-- The pair with a station's value replaced. -/
def Pair.set {α : Type} (p : Pair α) (k : Station) (x : α) : Pair α :=
  match k with
  | .one => { p with one := x }
  | .two => { p with two := x }

/-! ## Port interfaces (Chapter 1) -/

/-- What a receiver is waiting for (section 1.3). In BODY it holds the good header. -/
inductive RxPhase where
  | hunt
  | header
  | body (dest src kind len : Byte)
deriving DecidableEq, Repr

/-- A port's receiver (R3): its state, its escape-pending mark, the bytes gathered in that state, and
the moment from which the byte gap timer runs. -/
structure Receiver where
  phase      : RxPhase
  escPending : Bool
  gathered   : List Byte
  gapFrom    : Nat
deriving DecidableEq, Repr

/-- A frame on a wire: its stored fields, its bytes as composed (R2), and the moment its last byte ends. -/
structure Sending where
  frame : Frame
  bytes : List Byte
  endsAt : Nat
deriving DecidableEq, Repr

/-- The Port U interface: the receiver, the frame on the wire (none: IDLE bytes, R1), and the moment
the IDLE byte or frame in progress ends (R13). -/
structure PortU where
  rx       : Receiver
  tx       : Option Sending
  byteEnds : Nat
deriving DecidableEq, Repr

/-- A reception whose last byte arrives together with a cut that was taken first: the receiver as it stood and
the moment of the cut (R162, log 32). -/
structure CutReception where
  rx     : Receiver
  moment : Nat
deriving DecidableEq, Repr

/-- The Port D interface: the receiver, the frame being driven (none: the line is released, R1), the
frames given to the transmitter while it drives (R14), and the reception whose last byte arrives together
with a cut (R162, log 32). -/
structure PortD where
  rx      : Receiver
  tx      : Option Sending
  waiting : List Frame
  cut     : Option CutReception
deriving DecidableEq, Repr

/-! ## Frame Switch (Chapter 1) -/

/-- The two sources of the Port U transmitter (section 1.9). -/
inductive Source where
  | replyQueue
  | forwardQueue
deriving DecidableEq, Repr

/-- An entry of the downstream forward queue: a stored frame and its reply-awaited mark (R10). -/
structure DownEntry where
  frame   : Frame
  awaited : Bool
deriving DecidableEq, Repr

/-- The Frame Switch: the own address (R8), the forward queues (R10, R11) and the arbiter's mark (R13). -/
structure FrameSwitch where
  ownAddr : Byte
  down    : List DownEntry
  up      : List Frame
  mark    : Source
deriving DecidableEq, Repr

/-! ## Mode Control (Chapter 2) -/

/-- The operating mode (R16). -/
inductive Mode where
  | unset
  | standby
  | run
  | finishing
  | tripped
deriving DecidableEq, Repr

/-- The trip cause (R16). -/
inductive TripCause where
  | none
  | tripInput
  | encoder
deriving DecidableEq, Repr

/-- The fields of the line record, in the order of R23. -/
structure LineRecord where
  /-- field 1 -/
  address : Nat
  /-- field 2 -/
  stations : Nat
  /-- field 3 -/
  node1 : Nat
  /-- field 4 -/
  node2 : Nat
  /-- field 5, µm per count -/
  pitch : Nat
  /-- field 6, mm -/
  contact1 : Nat
  /-- field 7, mm -/
  contact2 : Nat
  /-- field 8, mm -/
  eyeOffset1 : Nat
  /-- field 9, mm -/
  eyeOffset2 : Nat
  /-- field 10, mm -/
  tolerance : Nat
  /-- field 11, mm -/
  minGap : Nat
  /-- field 12, mm -/
  maxLength : Nat
  /-- field 13, mm -/
  defaultDiameter : Nat
  /-- field 14, kPa -/
  ceiling : Nat
  /-- field 15, kPa per cycle -/
  slew : Nat
  /-- field 16, ms -/
  period : Nat
  /-- field 17, µs -/
  reportTimeout : Nat
  /-- field 18, ms -/
  speedWindow : Nat
  /-- field 19, ms -/
  dwellTime : Nat
  /-- field 20, percent -/
  dwellPercent : Nat
  /-- field 21 -/
  pulses : Nat
  /-- field 22, rpm -/
  underSpeed : Nat
  /-- field 23, rpm -/
  restartSpeed : Nat
  /-- field 24, kPa -/
  deviation : Nat
  /-- field 25 -/
  deviationLimit : Nat
  /-- field 26 -/
  confidence : Nat
  /-- field 27: bit c − 1 is the flag of channel c -/
  armEnable : BitVec 10
  /-- field 28 -/
  forwardLogs : Bool
deriving DecidableEq, Repr

/-- The distances of the record converted into counts (R25). -/
structure Counts where
  contact : Pair Int
  offset  : Pair Int
  eye     : Pair Int
  tolerance : Int
  minGap  : Int
  maxLength : Int
deriving DecidableEq, Repr

/-- A line record in force, with its converted counts (section 2.4). -/
structure Line where
  record : LineRecord
  counts : Counts
deriving DecidableEq, Repr

/-- Mode Control: mode, trip cause, line record, ambient temperature (absent: not set). -/
structure ModeControl where
  mode    : Mode
  cause   : TripCause
  line    : Option Line
  ambient : Option Int
deriving DecidableEq, Repr

/-! ## Table Store (Chapter 5) -/

/-- The two banks (R74). -/
inductive BankId where
  | a
  | b
deriving DecidableEq, Repr

/-- The states of a bank (section 5.4). -/
inductive BankState where
  | idle
  | copying
  | loading
  | ready
  | active
  | retiring
deriving DecidableEq, Repr

/-- A species entry (R76): fields 2..25. The six breakpoint slots are (D_i, P_i), those above n zero. -/
structure SpeciesEntry where
  n      : Nat
  points : List (Nat × Nat)
  pMin   : Nat
  pMax   : Nat
  tThaw  : Int
  tDeep  : Int
  frozen : Nat
  vRef   : Nat
  slope  : Int
  entryStart  : Nat
  entryLength : Nat
  tailEnd     : Nat
  tailLength  : Nat
deriving DecidableEq, Repr

/-- A bank (R74): entry k of the list is the entry of species code k, none when not loaded. -/
structure Bank where
  entries : List (Option SpeciesEntry)
  trims   : Option (List Int)
  state   : BankState
  refs    : Nat
deriving DecidableEq, Repr

/-- A copy in progress (R82, R83): from which bank to which, when the request was taken, and the item
moved next (0..31 an entry, 32 the trim table). -/
structure CopyEngine where
  source : BankId
  dest   : BankId
  start  : Nat
  item   : Nat
deriving DecidableEq, Repr

/-- The Table Store: both banks, the active bank mark (R74) and the copy engine. -/
structure TableStore where
  a    : Bank
  b    : Bank
  mark : Option BankId
  copy : Option CopyEngine
deriving DecidableEq, Repr

/-! ## Travel Unit (Chapter 3) -/

/-- The Travel Unit (R30 to R36). The still time is the clock less `stillSince`. -/
structure TravelUnit where
  t           : Travel
  lineA       : Bool
  lineB       : Bool
  illegal     : Nat
  failed      : Bool
  disturbed   : Bool
  windowStart : Nat
  net         : Int
  feed        : Nat
  stillSince  : Nat
  dwell       : Bool
deriving DecidableEq, Repr

/-! ## Rotor and Eye Inputs (Chapter 3) -/

/-- A rotor (R38 to R40): reference pulse time, last pulse period (µs), speed (rpm), under-speed flag. -/
structure Rotor where
  ref    : Option Nat
  period : Nat
  speed  : Nat
  under  : Bool
deriving DecidableEq, Repr

/-- An eye (R42, R43): debounced level, state FAULT, dark-since position. -/
structure Eye where
  dark      : Bool
  fault     : Bool
  darkSince : Option Travel
deriving DecidableEq, Repr

/-- The Rotor and Eye Inputs, with the trip input level (R46; true is asserted). -/
structure FieldInputs where
  rotors : Pair Rotor
  eyes   : Pair Eye
  trip   : Bool
deriving DecidableEq, Repr

/-! ## Log Tracker (Chapter 4) -/

/-- Where a record came from (R48). -/
inductive Origin where
  | scanned
  | synthetic
deriving DecidableEq, Repr

/-- Whether a record's presence has been established at a station's eye (R49). -/
inductive Confirmed where
  | no
  | byEye
  | byPrediction
deriving DecidableEq, Repr

/-- Where a record stands to an eye window (R57). -/
inductive WindowPos where
  | short
  | within
  | past
deriving DecidableEq, Repr

/-- Where a record stands to a contact line (R58). -/
inductive ContactPos where
  | short
  | on
  | clear
deriving DecidableEq, Repr

/-- A record's standing at one station (R49). -/
structure Standing where
  confirmed    : Confirmed
  lostPending  : Bool
  measured     : Bool
  passedUnseen : Bool
  window       : WindowPos
  contact      : ContactPos
deriving DecidableEq, Repr

/-- A known length (R48, R56): L in counts and L_mm in mm. -/
structure LogLength where
  counts : Int
  mm     : Int
deriving DecidableEq, Repr

/-- A log record (R48, R49). `id` is the model's own number of the record (log 7); an empty profile is
an absent one. -/
structure LogRecord where
  id          : Nat
  origin      : Origin
  tag         : Option Byte
  scanned     : Byte
  species     : Nat
  confidence  : Nat
  butt        : Nat
  top         : Nat
  profile     : List (Nat × Nat)
  length      : Option LogLength
  temperature : Option Int
  bank        : BankId
  b           : Travel
  joined      : Bool
  joinForced  : Bool
  at1         : Standing
  at2         : Standing
deriving DecidableEq, Repr

/-- The Log Tracker: the log queue, oldest first (R47), its marks of faulted eyes (R65), and the
number the next record is known by (log 7). -/
structure LogTracker where
  queue   : List LogRecord
  faulted : Pair Bool
  nextId  : Nat
deriving DecidableEq, Repr

/-! ## Arm Controller (Chapter 7) -/

/-- A station machine (R117): in ENGAGED it holds the number of its current log's record. -/
inductive StationState where
  | idle
  | engaged (id : Nat)
  | lockout
deriving DecidableEq, Repr

/-- The state of an arm channel (R130). -/
inductive ChannelState where
  | disabled
  | ready
  | isolated
deriving DecidableEq, Repr

/-- A reported arm position (R143, R178). -/
inductive ArmPos where
  | opened
  | closed
  | moving
deriving DecidableEq, Repr

/-- An arm channel (R130), with its clamp flag (R113) and its last reported position (R143). -/
structure Channel where
  state    : ChannelState
  lastSent : Nat
  previous : Nat
  closedCycles : Nat
  deviations : Nat
  clamp    : Bool
  pendingRestore : Bool
  position : Option ArmPos
deriving DecidableEq, Repr

/-- The Arm Controller: the station machines, and the five channels of each station in rising channel
number (channels 1..5 and 6..10). -/
structure ArmController where
  stations : Pair StationState
  channels : Pair (List Channel)
deriving DecidableEq, Repr

/-! ## Cycle Master (Chapter 8) -/

/-- The forwarding state within WINDOW (R143). While sending, whether a reply is awaited and from whom. -/
inductive Forwarding where
  | idle
  | sending (awaited : Bool) (dest : Byte)
  | replyWait (addr : Byte)
  | closed
deriving DecidableEq, Repr

/-- The cycle phase (R143). -/
inductive Phase where
  | halted
  | sync
  | setpoint (node : Station)
  | report (node : Station)
  | window (f : Forwarding)
deriving DecidableEq, Repr

/-- A report or reply wait in progress (R149, R159): when the line was released, and whether the
START of the awaited frame has been taken. -/
structure Wait where
  released : Nat
  begun    : Bool
deriving DecidableEq, Repr

/-- A valve driver node (R143). -/
structure Node where
  missing : Nat
  silent  : Bool
deriving DecidableEq, Repr

/-- One channel's part of an ARM_SETPOINT (R146, R178): CLOSE or OPEN, and the setpoint. -/
structure ArmCommand where
  close    : Bool
  setpoint : Nat
deriving DecidableEq, Repr

/-- The Cycle Master (R143). `deferred` is a start that fell due in an exchange (R145), `cutPending` a
cut that waits for the end of the frame on the wire (R161). -/
structure CycleMaster where
  number     : Nat
  phase      : Phase
  nextDue    : Option Nat
  composed   : Option (Pair (List ArmCommand))
  nodes      : Pair Node
  headMiss   : Nat
  wait       : Option Wait
  deferred   : Bool
  cutPending : Bool
deriving DecidableEq, Repr

/-! ## Request Service (Chapter 9) -/

/-- The twenty counters, in the order of R174. -/
structure Counters where
  uFramesOk : Nat
  dFramesOk : Nat
  hecCorrected : Nat
  hecFailed : Nat
  crcFailed : Nat
  framesAborted : Nat
  forwardDropped : Nat
  serviceDiscarded : Nat
  unsolicited : Nat
  forbiddenKind : Nat
  replyOverflow : Nat
  scanOverflow : Nat
  scanRejected : Nat
  voidUnmatched : Nat
  logsCompleted : Nat
  logsLost : Nat
  logsUnscanned : Nat
  unscannedDropped : Nat
  reportsMissing1 : Nat
  reportsMissing2 : Nat
deriving DecidableEq, Repr

/-- The request in flight, which holds the reserved slot (R169). -/
structure InFlight where
  num  : Byte
  dest : Byte
deriving DecidableEq, Repr

/-- Request Service: the counters (R174), the completed replies in the order completed, and the
request whose slot is reserved (R168, R169; log 8). -/
structure RequestService where
  counters : Counters
  replies  : List Frame
  inFlight : Option InFlight
deriving DecidableEq, Repr

/-! ## The whole -/

/-- The state of the block. `now` is the model's clock in µs (log 2); `pending` the waiting commands. -/
structure State where
  now      : Nat
  portU    : PortU
  portD    : PortD
  switch   : FrameSwitch
  mode     : ModeControl
  tables   : TableStore
  travel   : TravelUnit
  inputs   : FieldInputs
  tracker  : LogTracker
  arms     : ArmController
  cycle    : CycleMaster
  requests : RequestService
  pending  : List Instr
deriving DecidableEq, Repr

/-! ## After hardware reset -/

/-- A receiver in HUNT with nothing gathered (R3). -/
def Receiver.reset : Receiver := { phase := .hunt, escPending := false, gathered := [], gapFrom := 0 }

/-- An IDLE bank with nothing loaded (R94). -/
def Bank.reset : Bank := { entries := List.replicate 32 none, trims := none, state := .idle, refs := 0 }

/-- A rotor after hardware reset (R41). -/
def Rotor.reset : Rotor := { ref := none, period := 0, speed := 0, under := true }

/-- An eye after hardware reset (R45). -/
def Eye.reset : Eye := { dark := false, fault := false, darkSince := none }

/-- A channel after hardware reset (R142, R143). -/
def Channel.reset : Channel :=
  { state := .disabled, lastSent := 0, previous := 0, closedCycles := 0, deviations := 0,
    clamp := false, pendingRestore := false, position := none }

/-- A node after hardware reset (R143). -/
def Node.reset : Node := { missing := 0, silent := false }

/-- All counters 0 (R177). -/
def Counters.zero : Counters :=
  { uFramesOk := 0, dFramesOk := 0, hecCorrected := 0, hecFailed := 0, crcFailed := 0,
    framesAborted := 0, forwardDropped := 0, serviceDiscarded := 0, unsolicited := 0,
    forbiddenKind := 0, replyOverflow := 0, scanOverflow := 0, scanRejected := 0,
    voidUnmatched := 0, logsCompleted := 0, logsLost := 0, logsUnscanned := 0,
    unscannedDropped := 0, reportsMissing1 := 0, reportsMissing2 := 0 }

/-- The Travel Unit after hardware reset (R37), with the levels of A and B at its end. -/
def TravelUnit.reset (a b : Bool) : TravelUnit :=
  { t := 0#24, lineA := a, lineB := b, illegal := 0, failed := false, disturbed := false,
    windowStart := 0, net := 0, feed := 0, stillSince := 0, dwell := false }

/-- The block right after hardware reset. The levels of the encoder lines (low) and of the trip line
(released) are the model's (DESIGN CHOICE, unsafe, log 5): the spec takes them from the pins. -/
def State.reset : State :=
  { now := 0
    portU := { rx := Receiver.reset, tx := none, byteEnds := Config.byteTime }
    portD := { rx := Receiver.reset, tx := none, waiting := [], cut := none }
    switch := { ownAddr := Config.unconfigured, down := [], up := [], mark := .forwardQueue }
    mode := { mode := .unset, cause := .none, line := none, ambient := none }
    tables := { a := Bank.reset, b := Bank.reset, mark := none, copy := none }
    travel := TravelUnit.reset false false
    inputs :=
      { rotors := { one := Rotor.reset, two := Rotor.reset }
        eyes := { one := Eye.reset, two := Eye.reset }
        trip := false }
    tracker := { queue := [], faulted := { one := false, two := false }, nextId := 0 }
    arms :=
      { stations := { one := .idle, two := .idle }
        channels := { one := List.replicate 5 Channel.reset, two := List.replicate 5 Channel.reset } }
    cycle :=
      { number := 0, phase := .halted, nextDue := none, composed := none
        nodes := { one := Node.reset, two := Node.reset }
        headMiss := 0, wait := none, deferred := false, cutPending := false }
    requests := { counters := Counters.zero, replies := [], inFlight := none }
    pending := [] }

end Sys2Proof.Machine
end

