-- ==== Sys2Proof/Machine/Ops.lean ====
section
/-! DEFINITION. The shared operations the whole part rests on: the travel difference, the rounding
rule, the clock, the counters, the log queue's lookups and the replies. -/

namespace Sys2Proof.Machine

/-! ## Arithmetic -/

/-- The signed difference of two travel values (R31): formed modulo 2^24 and read in
−8388608..8388607. -/
def travelDiff (t b : Travel) : Int := (t - b).toInt

/-- A travel value less a number of counts, modulo 2^24 (R53, R60). -/
def travelBack (t : Travel) (n : Int) : Travel := t - BitVec.ofInt 24 n

/-- The rounding rule (R96): the exact quotient rounded to the nearest integer, a half away from zero. -/
def roundDiv (a : Int) (d : Nat) : Int :=
  let q : Nat := (2 * a.natAbs + d) / (2 * d)
  if a < 0 then -(q : Int) else (q : Int)

/-- A value brought into a range (R28, R51). -/
def clampInt (lo hi x : Int) : Int := if x < lo then lo else if hi < x then hi else x

/-- A value brought into a range (R51). -/
def clampNat (lo hi x : Nat) : Nat := if x < lo then lo else if hi < x then hi else x

/-- A count that holds at its top value (R32, R131, R143, R174). -/
def riseTo (top n : Nat) : Nat := if n < top then n + 1 else n

/-! ## The clock -/

/-- The clock moved up to a moment, if it has not reached it (log 2). -/
def State.reach (s : State) (t : Nat) : State := { s with now := max s.now t }

/-! ## Counters (R174) -/

/-- The twenty counters by name. -/
inductive Counter where
  | uFramesOk
  | dFramesOk
  | hecCorrected
  | hecFailed
  | crcFailed
  | framesAborted
  | forwardDropped
  | serviceDiscarded
  | unsolicited
  | forbiddenKind
  | replyOverflow
  | scanOverflow
  | scanRejected
  | voidUnmatched
  | logsCompleted
  | logsLost
  | logsUnscanned
  | unscannedDropped
  | reportsMissing1
  | reportsMissing2
deriving DecidableEq, Repr

/-- The value of a counter. -/
def Counters.get (k : Counters) : Counter → Nat
  | .uFramesOk => k.uFramesOk
  | .dFramesOk => k.dFramesOk
  | .hecCorrected => k.hecCorrected
  | .hecFailed => k.hecFailed
  | .crcFailed => k.crcFailed
  | .framesAborted => k.framesAborted
  | .forwardDropped => k.forwardDropped
  | .serviceDiscarded => k.serviceDiscarded
  | .unsolicited => k.unsolicited
  | .forbiddenKind => k.forbiddenKind
  | .replyOverflow => k.replyOverflow
  | .scanOverflow => k.scanOverflow
  | .scanRejected => k.scanRejected
  | .voidUnmatched => k.voidUnmatched
  | .logsCompleted => k.logsCompleted
  | .logsLost => k.logsLost
  | .logsUnscanned => k.logsUnscanned
  | .unscannedDropped => k.unscannedDropped
  | .reportsMissing1 => k.reportsMissing1
  | .reportsMissing2 => k.reportsMissing2

/-- A counter raised by one; at 65535 it holds (R174). -/
def Counters.bump (k : Counters) : Counter → Counters
  | .uFramesOk => { k with uFramesOk := riseTo Config.counterTop k.uFramesOk }
  | .dFramesOk => { k with dFramesOk := riseTo Config.counterTop k.dFramesOk }
  | .hecCorrected => { k with hecCorrected := riseTo Config.counterTop k.hecCorrected }
  | .hecFailed => { k with hecFailed := riseTo Config.counterTop k.hecFailed }
  | .crcFailed => { k with crcFailed := riseTo Config.counterTop k.crcFailed }
  | .framesAborted => { k with framesAborted := riseTo Config.counterTop k.framesAborted }
  | .forwardDropped => { k with forwardDropped := riseTo Config.counterTop k.forwardDropped }
  | .serviceDiscarded => { k with serviceDiscarded := riseTo Config.counterTop k.serviceDiscarded }
  | .unsolicited => { k with unsolicited := riseTo Config.counterTop k.unsolicited }
  | .forbiddenKind => { k with forbiddenKind := riseTo Config.counterTop k.forbiddenKind }
  | .replyOverflow => { k with replyOverflow := riseTo Config.counterTop k.replyOverflow }
  | .scanOverflow => { k with scanOverflow := riseTo Config.counterTop k.scanOverflow }
  | .scanRejected => { k with scanRejected := riseTo Config.counterTop k.scanRejected }
  | .voidUnmatched => { k with voidUnmatched := riseTo Config.counterTop k.voidUnmatched }
  | .logsCompleted => { k with logsCompleted := riseTo Config.counterTop k.logsCompleted }
  | .logsLost => { k with logsLost := riseTo Config.counterTop k.logsLost }
  | .logsUnscanned => { k with logsUnscanned := riseTo Config.counterTop k.logsUnscanned }
  | .unscannedDropped => { k with unscannedDropped := riseTo Config.counterTop k.unscannedDropped }
  | .reportsMissing1 => { k with reportsMissing1 := riseTo Config.counterTop k.reportsMissing1 }
  | .reportsMissing2 => { k with reportsMissing2 := riseTo Config.counterTop k.reportsMissing2 }

/-- The counters in the order of R174. -/
def Counters.toList (k : Counters) : List Nat :=
  [k.uFramesOk, k.dFramesOk, k.hecCorrected, k.hecFailed, k.crcFailed, k.framesAborted,
   k.forwardDropped, k.serviceDiscarded, k.unsolicited, k.forbiddenKind, k.replyOverflow,
   k.scanOverflow, k.scanRejected, k.voidUnmatched, k.logsCompleted, k.logsLost, k.logsUnscanned,
   k.unscannedDropped, k.reportsMissing1, k.reportsMissing2]

/-- An event that a counter counts (R174). -/
def State.bump (s : State) (c : Counter) : State :=
  { s with requests := { s.requests with counters := s.requests.counters.bump c } }

/-! ## Stations, banks and the line record -/

/-- Whether a station is in use by the line record in force (R49, R118). -/
def Line.inUse (l : Line) : Station → Bool
  | .one => true
  | .two => l.record.stations == 2

/-- The last station in use (R71). -/
def Line.last (l : Line) : Station := if l.record.stations == 2 then .two else .one

/-- The stations in use, station 1 first (R59). -/
def Line.used (l : Line) : List Station := if l.record.stations == 2 then [.one, .two] else [.one]

/-- The other bank. -/
def BankId.other : BankId → BankId
  | .a => .b
  | .b => .a

/-- A bank of the Table Store. -/
def TableStore.bank (t : TableStore) : BankId → Bank
  | .a => t.a
  | .b => t.b

/-- The Table Store with one bank changed. -/
def TableStore.setBank (t : TableStore) (k : BankId) (x : Bank) : TableStore :=
  match k with
  | .a => { t with a := x }
  | .b => { t with b := x }

/-- The count of loaded species entries of a bank (R84 to R86). -/
def Bank.loadedCount (k : Bank) : Nat := k.entries.countP Option.isSome

/-- A bank's species entry for a code, when loaded (R74). -/
def Bank.entry (k : Bank) (code : Nat) : Option SpeciesEntry := (k.entries[code]?).join

/-! ## Log records -/

/-- A record's standing at a station (R49). -/
def LogRecord.at (r : LogRecord) : Station → Standing
  | .one => r.at1
  | .two => r.at2

/-- A record with its standing at one station changed. -/
def LogRecord.setAt (r : LogRecord) (k : Station) (x : Standing) : LogRecord :=
  match k with
  | .one => { r with at1 := x }
  | .two => { r with at2 := x }

/-- Tracked at a station: neither lost-pending nor passed-unseen there (Chapter 7, introduction). -/
def Standing.tracked (x : Standing) : Bool := !x.lostPending && !x.passedUnseen

/-- Lost-pending at some station (R67, R68). -/
def LogRecord.pendingLoss (r : LogRecord) : Bool := r.at1.lostPending || r.at2.lostPending

/-- The queued record of a number. -/
def State.record? (s : State) (id : Nat) : Option LogRecord := s.tracker.queue.find? (fun r => r.id == id)

/-- The log queue with one record changed. -/
def updateRecord (id : Nat) (f : LogRecord → LogRecord) (q : List LogRecord) : List LogRecord :=
  q.map (fun r => if r.id == id then f r else r)

/-- The state with one queued record changed. -/
def State.update (s : State) (id : Nat) (f : LogRecord → LogRecord) : State :=
  { s with tracker := { s.tracker with queue := updateRecord id f s.tracker.queue } }

/-- The record after the one of a number in the queue (R48). -/
def successor? (id : Nat) : List LogRecord → Option LogRecord
  | [] => none
  | r :: rest => if r.id == id then rest.head? else successor? id rest

/-- The record before the one of a number in the queue (R48). -/
def predecessor? (id : Nat) : List LogRecord → Option LogRecord
  | [] => none
  | [_] => none
  | p :: r :: rest => if r.id == id then some p else predecessor? id (r :: rest)

/-- Whether the first of two records stands before the second in the queue, and so is older (R47). -/
def olderThan (z x : Nat) : List LogRecord → Bool
  | [] => false
  | r :: rest => if r.id == z then rest.any (fun y => y.id == x) else olderThan z x rest

/-- A record's position T − B (R31, section 4.4). -/
def State.position (s : State) (r : LogRecord) : Int := travelDiff s.travel.t r.b

/-- Whether some station is ENGAGED with a record (R67, R68). -/
def State.isEngaged (s : State) (id : Nat) : Bool :=
  s.arms.stations.one == .engaged id || s.arms.stations.two == .engaged id

/-- The modes in which stations follow their machines (R16, R118). -/
def Mode.works : Mode → Bool
  | .run => true
  | .finishing => true
  | _ => false

/-! ## Replies -/

/-- The outcome of a request with its detail (R167). -/
inductive ReplyOutcome where
  | done
  | busy
  | notNow (detail : Nat)
  | badValue (detail : Nat)
  | badForm
  | unknownRequest
deriving DecidableEq, Repr

/-- The outcome's value (R167). -/
def ReplyOutcome.code : ReplyOutcome → Byte
  | .done => 0#8
  | .busy => 1#8
  | .notNow _ => 2#8
  | .badValue _ => 3#8
  | .badForm => 4#8
  | .unknownRequest => 5#8

/-- The detail's value (R167): 0 where the table gives none. -/
def ReplyOutcome.detail : ReplyOutcome → Byte
  | .notNow d => BitVec.ofNat 8 d
  | .badValue d => BitVec.ofNat 8 d
  | _ => 0#8

/-- NOT_NOW "wrong mode" (R167). -/
def ReplyOutcome.wrongMode : ReplyOutcome := .notNow 1
/-- NOT_NOW "no active bank" (R167). -/
def ReplyOutcome.noActiveBank : ReplyOutcome := .notNow 2
/-- NOT_NOW "trip input asserted" (R167). -/
def ReplyOutcome.tripAsserted : ReplyOutcome := .notNow 3
/-- NOT_NOW "encoder failed" (R167). -/
def ReplyOutcome.encoderFailed : ReplyOutcome := .notNow 4
/-- NOT_NOW "bank retiring" (R167). -/
def ReplyOutcome.bankRetiring : ReplyOutcome := .notNow 5
/-- NOT_NOW "bank not loading" (R167). -/
def ReplyOutcome.bankNotLoading : ReplyOutcome := .notNow 6
/-- NOT_NOW "entry 0 missing" (R167). -/
def ReplyOutcome.entryMissing : ReplyOutcome := .notNow 7
/-- NOT_NOW "no ready bank" (R167). -/
def ReplyOutcome.noReadyBank : ReplyOutcome := .notNow 8
/-- NOT_NOW "channel disabled" (R167). -/
def ReplyOutcome.channelDisabled : ReplyOutcome := .notNow 9
/-- BAD_VALUE "not loaded" (R167). -/
def ReplyOutcome.notLoaded : ReplyOutcome := .badValue 255

/-- A reply frame (R166): kind REPLY, to the request's source, from the own address as it stands;
request number, code, outcome, detail, body. -/
def State.replyFrame (s : State) (dest num code : Byte) (o : ReplyOutcome) (body : List Byte) : Frame :=
  { dest := dest, src := s.switch.ownAddr, kind := 0x21#8,
    payload := num :: code :: o.code :: o.detail :: body }

/-- A completed reply placed in the reply queue (R168). -/
def State.placeReply (s : State) (f : Frame) : State :=
  { s with requests := { s.requests with replies := s.requests.replies ++ [f] } }

/-- The occupancy of the reply queue: slots reserved or completed (R168). -/
def State.slotsTaken (s : State) : Nat :=
  s.requests.replies.length + (if s.requests.inFlight.isSome then 1 else 0)

end Sys2Proof.Machine
end

