-- ==== Sys2Proof/Machine/Link.lean ====
section
/-! DEFINITION. The line link of Chapter 1: escaping and framing (R2), the header error check (R5,
R6), the payload CRC (R7) and the receiver (R3, R4). -/

namespace Sys2Proof.Machine

/-! ## Header error check -/

/-- The codeword positions of the 32 header bits, in rising order (R5, section 10.1): header bit i is
destination bit i, then source, kind and length bits. -/
def headerPositions : List Nat :=
  [3, 5, 6, 7, 9, 10, 11, 12, 13, 14, 15, 17, 18, 19, 20, 21,
   22, 23, 24, 25, 26, 27, 28, 29, 30, 31, 33, 34, 35, 36, 37, 38]

/-- The four header bytes as 32 bits: bit i is header bit i (R5). -/
def headerBits (dest src kind len : Byte) : BitVec 32 := len ++ kind ++ src ++ dest

/-- The positions that hold a one, folded by exclusive or: bit i of the result is odd exactly when an
odd number of the positions with bit i set hold a one (R5, R6). -/
def positionSum (h : BitVec 32) : Nat :=
  headerPositions.zipIdx.foldl (fun a p => if h.getLsbD p.2 then a ^^^ p.1 else a) 0

/-- Whether an odd number of the first n bits of a number are ones. -/
def oddOnes (n x : Nat) : Bool := (List.range n).foldl (fun a i => a ^^ x.testBit i) false

/-- The HEC byte of a header (R5): c1..c32 in bits 0..5, P in bit 6, 0 in bit 7. A check bit makes its
positions even, so it is the bit of the header's position sum. -/
def hecByte (dest src kind len : Byte) : Byte :=
  let h := headerBits dest src kind len
  let c := positionSum h
  BitVec.ofNat 8 (c + (if oddOnes 32 h.toNat ^^ oddOnes 6 c then 64 else 0))

/-- A header taken as good, and whether it was corrected (R6). -/
structure GoodHeader where
  dest : Byte
  src  : Byte
  kind : Byte
  len  : Byte
  corrected : Bool
deriving DecidableEq, Repr

/-- The fields of 32 header bits. -/
def headerOf (h : BitVec 32) (corrected : Bool) : GoodHeader :=
  { dest := h.extractLsb' 0 8, src := h.extractLsb' 8 8, kind := h.extractLsb' 16 8,
    len := h.extractLsb' 24 8, corrected := corrected }

/-- The header with the bit at a codeword position inverted; a check position changes no header bit
(R6). -/
def invertPosition (h : BitVec 32) (s : Nat) : BitVec 32 :=
  match headerPositions.findIdx? (fun p => p == s) with
  | some i => h ^^^ BitVec.twoPow 32 i
  | none => h

/-- The header check on receipt (R6), bit 7 of the HEC byte ignored; none when the frame is discarded. -/
def checkHeader (dest src kind len hec : Byte) : Option GoodHeader :=
  let h := headerBits dest src kind len
  let s := positionSum h ^^^ (hec.toNat % 64)
  let disagrees := oddOnes 32 h.toNat ^^ oddOnes 7 hec.toNat
  let taken :=
    if s == 0 then some (headerOf h disagrees)
    else if disagrees && decide (s ≤ 38) then some (headerOf (invertPosition h s) true)
    else none
  taken.filter (fun g => decide (g.len.toNat ≤ Config.maxPayload))

/-! ## Payload CRC -/

/-- One bit of the CRC register: shifted left, with the polynomial x^16 + x^15 + x^2 + 1 (R7). -/
def crcShift (c : BitVec 16) : BitVec 16 :=
  if c.getLsbD 15 then (c <<< 1) ^^^ 0x8005#16 else c <<< 1

/-- One payload byte taken into the CRC, most significant bit first (R7). -/
def crcByte (c : BitVec 16) (b : Byte) : BitVec 16 :=
  (List.range 8).foldl (fun x _ => crcShift x) (c ^^^ (b ++ 0#8))

/-- The CRC of a payload; the register starts at 0xFFFF (R7). -/
def crcOf (p : List Byte) : BitVec 16 := p.foldl crcByte 0xFFFF#16

/-- The CRC as sent, high byte first (R7). -/
def crcBytes (p : List Byte) : List Byte := [(crcOf p).extractLsb' 8 8, (crcOf p).extractLsb' 0 8]

/-! ## Composing a frame -/

/-- A byte as the transmitter sends it after START: escaped when it is START, ESC or IDLE (R2). -/
def escape (b : Byte) : List Byte :=
  if b == Config.startByte || b == Config.escByte || b == Config.idleByte
  then [Config.escByte, b ^^^ 0x20#8] else [b]

/-- The length byte of a frame's header. -/
def frameLen (f : Frame) : Byte := BitVec.ofNat 8 f.payload.length

/-- The bytes of a frame after START, before escaping: header, HEC, payload, CRC (R2). -/
def frameBody (f : Frame) : List Byte :=
  [f.dest, f.src, f.kind, frameLen f, hecByte f.dest f.src f.kind (frameLen f)] ++ f.payload ++ crcBytes f.payload

/-- A frame on the wire, with fresh HEC and CRC and every escape (R2). -/
def wire (f : Frame) : List Byte := Config.startByte :: (frameBody f).flatMap escape

/-- The stored size of a frame: its four header fields and its payload (R10). -/
def storedSize (f : Frame) : Nat := 4 + f.payload.length

/-- The time a frame lasts on the wire, µs (R1, R2). -/
def wireTime (f : Frame) : Nat := Config.byteTime * (wire f).length

/-! ## The receiver -/

/-- What a byte makes the receiver report (R3, R4, R6, R7, R15). -/
inductive RxReport where
  /-- nothing -/
  | quiet
  /-- a START byte taken in HUNT: a frame begins -/
  | begun
  /-- a frame in reception is aborted (R4) -/
  | aborted
  /-- a header is good; whether it was corrected (R6) -/
  | headerGood (corrected : Bool)
  /-- a frame is discarded at its header (R6) -/
  | headerFailed
  /-- a frame is discarded for its CRC (R7) -/
  | crcFailed
  /-- a frame is good (R7) -/
  | good (f : Frame)
deriving DecidableEq, Repr

/-- Whether a frame is in reception: HEADER or BODY. -/
def Receiver.receiving (r : Receiver) : Bool := r.phase != .hunt

/-- The receiver in HUNT; the gap timer stops (R3). -/
def Receiver.hunt (r : Receiver) : Receiver := { r with phase := .hunt, escPending := false, gathered := [] }

/-- The receiver at the START of a frame: HEADER, nothing gathered (R3). -/
def Receiver.beginFrame (now : Nat) : Receiver :=
  { phase := .header, escPending := false, gathered := [], gapFrom := now }

/-- The end of HEADER (R3, R6): five bytes gathered. -/
def Receiver.endHeader (now : Nat) (r : Receiver) (g : List Byte) : Receiver × RxReport :=
  match checkHeader (g.getD 0 0#8) (g.getD 1 0#8) (g.getD 2 0#8) (g.getD 3 0#8) (g.getD 4 0#8) with
  | some h =>
    ({ phase := .body h.dest h.src h.kind h.len, escPending := false, gathered := [], gapFrom := now },
     .headerGood h.corrected)
  | none => (r.hunt, .headerFailed)

/-- The end of BODY (R3, R7): the payload and the two CRC bytes gathered. -/
def Receiver.endBody (r : Receiver) (dest src kind len : Byte) (g : List Byte) : Receiver × RxReport :=
  let payload := g.take len.toNat
  if crcBytes payload == g.drop len.toNat
  then (r.hunt, .good { dest := dest, src := src, kind := kind, payload := payload })
  else (r.hunt, .crcFailed)

/-- A data byte gathered (R3); the gap timer restarts. -/
def Receiver.gather (now : Nat) (r : Receiver) (b : Byte) : Receiver × RxReport :=
  let g := r.gathered ++ [b]
  match r.phase with
  | .hunt => (r, .quiet)
  | .header =>
    if g.length == 5 then r.endHeader now g
    else ({ r with escPending := false, gathered := g, gapFrom := now }, .quiet)
  | .body dest src kind len =>
    if g.length == len.toNat + 2 then r.endBody dest src kind len g
    else ({ r with escPending := false, gathered := g, gapFrom := now }, .quiet)

/-- A byte taken by a receiver at a moment (R3, R4). -/
def Receiver.take (now : Nat) (r : Receiver) (b : Byte) : Receiver × RxReport :=
  if !r.receiving then
    if b == Config.startByte then (Receiver.beginFrame now, .begun) else (r, .quiet)
  else if b == Config.startByte then (Receiver.beginFrame now, .aborted)
  else if r.escPending then
    if b == 0x96#8 || b == 0x97#8 || b == 0x98#8 then r.gather now (b ^^^ 0x20#8)
    else (r.hunt, .aborted)
  else if b == Config.idleByte then (r.hunt, .aborted)
  else if b == Config.escByte then ({ r with escPending := true, gapFrom := now }, .quiet)
  else r.gather now b

/-- Whether a report is the end of a frame with its last byte: good, or failed at its header or its CRC. -/
def RxReport.ends : RxReport → Bool
  | .quiet => false
  | .begun => false
  | .aborted => false
  | .headerGood _ => false
  | .headerFailed => true
  | .crcFailed => true
  | .good _ => true

/-- What a receiver's report counts in R6, R4 and R7 itself: the counters of the receiver. A good frame
is counted in the port's own counter. -/
def RxReport.counter? (okCounter : Counter) : RxReport → Option Counter
  | .quiet => none
  | .begun => none
  | .aborted => some .framesAborted
  | .headerGood true => some .hecCorrected
  | .headerGood false => none
  | .headerFailed => some .hecFailed
  | .crcFailed => some .crcFailed
  | .good _ => some okCounter

end Sys2Proof.Machine
end

