-- ==== Sys2Proof/Machine/Flags.lean ====
section
/-! DEFINITION. The flags and positions the part judges: window and contact positions (R57, R58), the
joined flag (R69), the under-speed flag (R40), the dwell flag (R36), the blocked-eye check (R43), the
clamp flag (R113) and the SILENT flag (R153). -/

namespace Sys2Proof.Machine

/-- The window position of a position T − B at a station (R57). -/
def windowPos (c : Counts) (k : Station) (pos : Int) : WindowPos :=
  if pos < c.eye.get k - c.tolerance then .short
  else if pos ≤ c.eye.get k + c.tolerance then .within
  else .past

/-- The contact position of a position T − B at a station, for a length known or not (R58). -/
def contactPos (c : Counts) (k : Station) (len : Option LogLength) (pos : Int) : ContactPos :=
  if pos < c.contact.get k then .short
  else
    match len with
    | none => .on
    | some l => if pos < c.contact.get k + l.counts then .on else .clear

/-- A window closes: the position passes from SHORT or IN to PAST (R57) at a station where the record is
unconfirmed and tracked. -/
def windowCloses (x : Standing) (now : WindowPos) : Bool :=
  x.window != .past && now == .past && x.confirmed == .no && x.tracked

/-- The gap of a record to its predecessor, for the predecessor's length (R69). -/
def gapTo (r pred : LogRecord) (l : LogLength) : Int := travelDiff r.b (pred.b + BitVec.ofInt 24 l.counts)

/-- The joined-to-predecessor flag (R69). `fresh` marks a decision at creation or insertion, which
leaves the flag clear when the predecessor's length is unknown; a re-evaluation leaves it as it was. -/
def decideJoined (minGap : Int) (fresh : Bool) (pred : Option LogRecord) (r : LogRecord) : Bool :=
  match pred with
  | none => false
  | some p =>
    if r.joinForced then true
    else
      match p.length with
      | some l => decide (gapTo r p l < minGap)
      | none => if fresh then false else r.joined

/-- The under-speed flag judged on a new speed (R40). -/
def judgeUnder (line : Option Line) (speed : Nat) (was : Bool) : Bool :=
  match line with
  | none => true
  | some l =>
    if speed < l.record.underSpeed then true
    else if l.record.restartSpeed ≤ speed then false
    else was

/-- The dwell flag judged on a still time in µs (R36); the dwell time is in ms. -/
def judgeDwell (l : Line) (still : Nat) : Bool := decide (l.record.dwellTime * 1000 ≤ still)

/-- The blocked-eye check (R43): the dark-since travel is greater than the limit. -/
def eyeBlocked (c : Counts) (t : Travel) (e : Eye) : Bool :=
  e.dark && !e.fault &&
    (match e.darkSince with
     | some d => decide (c.maxLength + c.minGap < travelDiff t d)
     | none => false)

/-- The clamp flag of a CLOSE composition (R113): a clamp of R112 changed the value. -/
def clampFlag (b5 b6 : Int) : Bool := b6 != b5

/-- The SILENT flag after a missing report has raised the missing count (R153). -/
def silentAfter (was : Bool) (missing : Nat) : Bool := was || decide (Config.silentAt ≤ missing)

end Sys2Proof.Machine
end

