-- ==== Sys2Proof/Machine/Pressure.lean ====
section
/-! DEFINITION. The Pressure Calculator (Chapter 6): stages 1 to 6, each an integer function of its
inputs, and the slew limit of stage 7. Every division is the rounding rule (R96). -/

namespace Sys2Proof.Machine

/-- The position p of a record past a contact line, mm (R99): q counts past contact. -/
def positionMm (pitch : Nat) (len : Option LogLength) (q : Int) : Int :=
  let p := roundDiv (q * pitch) 1000
  let p := if p < 0 then 0 else p
  match len with
  | some l => if l.mm < p then l.mm else p
  | none => p

/-- Linear interpolation from (x0, y0) to (x1, y1) at x; the quotient alone is rounded (R96, R101). -/
def interpolate (x0 y0 x1 y1 x : Int) : Int := y0 + roundDiv ((y1 - y0) * (x - x0)) (x1 - x0).toNat

/-- The interval search of R101 and R103 beyond a first point (x0, y0) that x has reached: held flat at
the last point. -/
def alongCurve (x : Int) (x0 y0 : Nat) : List (Nat × Nat) → Int
  | [] => y0
  | (x1, y1) :: rest => if x < x1 then interpolate x0 y0 x1 y1 x else alongCurve x x1 y1 rest

/-- A curve of points with rising x, held flat before the first and after the last (R101, R103). -/
def onCurve (x : Int) : List (Nat × Nat) → Int
  | [] => 0
  | (x0, y0) :: rest => if x ≤ x0 then y0 else alongCurve x x0 y0 rest

/-- The diameter at a position (R100 to R102). -/
def diameterAt (r : LogRecord) (p : Int) : Int :=
  match r.profile, r.length with
  | _ :: _, _ => onCurve p r.profile
  | [], some l => r.butt + roundDiv (((r.top : Int) - r.butt) * p) l.mm.toNat
  | [], none => r.butt

/-- Stage 1, the base curve (R103): the first n breakpoints. -/
def basePressure (e : SpeciesEntry) (d : Int) : Int := onCurve d (e.points.take e.n)

/-- The frozen factor, percent (R104). -/
def frozenFactor (e : SpeciesEntry) (temp : Option Int) : Int :=
  match temp with
  | none => e.frozen
  | some t =>
    if e.tThaw ≤ t then 100
    else if t ≤ e.tDeep then e.frozen
    else 100 + roundDiv (((e.frozen : Int) - 100) * (e.tThaw - t)) (e.tThaw - e.tDeep).toNat

/-- The feed factor, per-mille (R106). -/
def feedFactor (e : SpeciesEntry) (feed : Nat) : Int :=
  clampInt 800 1250 (1000 + roundDiv (e.slope * ((feed : Int) - e.vRef)) 100)

/-- The entry factor, percent, when it applies (R107). -/
def entryFactor (e : SpeciesEntry) (joined : Bool) (p : Int) : Option Int :=
  if !joined && decide (0 < e.entryLength) && decide (p < e.entryLength)
  then some (e.entryStart + roundDiv ((100 - (e.entryStart : Int)) * p) e.entryLength)
  else none

/-- The tail factor, percent, when it applies (R108). -/
def tailFactor (e : SpeciesEntry) (len : Option LogLength) (successorJoined : Bool) (p : Int) : Option Int :=
  match len with
  | none => none
  | some l =>
    if decide (0 < e.tailLength) && decide (l.mm - e.tailLength < p) && !successorJoined
    then some (e.tailEnd + roundDiv ((100 - (e.tailEnd : Int)) * (l.mm - p)) e.tailLength)
    else none

/-- The phase factor (R109): the smallest of the factors that apply, 100 when neither does. -/
def phaseFactor (ge gt : Option Int) : Int :=
  match ge, gt with
  | none, none => 100
  | some g, none => g
  | none, some g => g
  | some g, some h => min g h

/-- The two clamps of stage 6 (R112): the species' bounds, then the machine ceiling. -/
def clampPressure (e : SpeciesEntry) (ceiling : Nat) (b5 : Int) : Int :=
  min (clampInt e.pMin e.pMax b5) ceiling

/-- What the Pressure Calculator reads beside the record and its species entry (R98). -/
structure PressureInputs where
  travel  : Travel
  contact : Int
  pitch   : Nat
  ceiling : Nat
  feed    : Nat
  dwell   : Bool
  dwellPercent : Nat
  successorJoined : Bool
  trim    : Int
deriving DecidableEq, Repr

/-- Stages 1 to 3 at a diameter: base, frozen and feed (R103 to R106). -/
def fedPressure (e : SpeciesEntry) (temp : Option Int) (feed : Nat) (d : Int) : Int :=
  let b2 := roundDiv (basePressure e d * frozenFactor e temp) 100
  roundDiv (b2 * feedFactor e feed) 1000

/-- B5 of a record for one channel (R99 to R111): the value before the clamps. -/
def pressureB5 (i : PressureInputs) (e : SpeciesEntry) (r : LogRecord) : Int :=
  let p := positionMm i.pitch r.length (travelDiff i.travel r.b - i.contact)
  let b3 := fedPressure e r.temperature i.feed (diameterAt r p)
  let g := phaseFactor (entryFactor e r.joined p) (tailFactor e r.length i.successorJoined p)
  let b4 := roundDiv (b3 * g) 100
  let b4 := if i.dwell then roundDiv (b4 * i.dwellPercent) 100 else b4
  b4 + i.trim

/-- B6, the target of a channel (R112). -/
def pressureB6 (i : PressureInputs) (e : SpeciesEntry) (r : LogRecord) : Int :=
  clampPressure e i.ceiling (pressureB5 i e r)

/-- Stage 7, the slew limit (R114). -/
def slewed (slew prev : Nat) (b6 : Int) : Nat :=
  if (slew : Int) < b6 - prev then prev + slew
  else if b6 - prev < -(slew : Int) then prev - slew
  else b6.toNat

end Sys2Proof.Machine
end

