-- ==== Sys2Proof/Machine/Operands.lean ====
section
/-! DEFINITION. The layouts of Chapter 10 (R178): byte order, and the images a command carries or a
reply returns. Every multi-byte field is most significant byte first. -/

namespace Sys2Proof.Machine

/-! ## Reading fields of a payload -/

/-- The byte at an offset, 0 beyond the end (every caller has checked the length). -/
def rd8 (p : List Byte) (i : Nat) : Nat := (p.getD i 0#8).toNat

/-- The two-byte field at an offset (R178). -/
def rd16 (p : List Byte) (i : Nat) : Nat := rd8 p i * 256 + rd8 p (i + 1)

/-- The signed two-byte field at an offset (R178). -/
def rdS16 (p : List Byte) (i : Nat) : Int := (BitVec.ofNat 16 (rd16 p i)).toInt

/-- A flag byte: clear when 0, set for any other value (R178). -/
def rdFlag (p : List Byte) (i : Nat) : Bool := rd8 p i != 0

/-! ## Writing fields -/

/-- A one-byte field. -/
def be8 (n : Nat) : List Byte := [BitVec.ofNat 8 n]

/-- A two-byte field, high byte first (R178). -/
def be16 (n : Nat) : List Byte := [BitVec.ofNat 8 (n / 256), BitVec.ofNat 8 n]

/-- A three-byte field, high byte first (R178). -/
def be24 (n : Nat) : List Byte :=
  [BitVec.ofNat 8 (n / 65536), BitVec.ofNat 8 (n / 256), BitVec.ofNat 8 n]

/-- A signed two-byte field, two's complement (R178). -/
def beS16 (z : Int) : List Byte := be16 (BitVec.ofInt 16 z).toNat

/-- A flag at a bit of a byte. -/
def bitAt (i : Nat) (f : Bool) : Nat := if f then 2 ^ i else 0

/-! ## Enumerations (section 10.2) -/

/-- The code of a mode. -/
def Mode.code : Mode → Nat
  | .unset => 0
  | .standby => 1
  | .run => 2
  | .finishing => 3
  | .tripped => 4

/-- The code of a trip cause. -/
def TripCause.code : TripCause → Nat
  | .none => 0
  | .tripInput => 1
  | .encoder => 2

/-- The code of a bank. -/
def BankId.code : BankId → Nat
  | .a => 1
  | .b => 2

/-- The code of a bank state. -/
def BankState.code : BankState → Nat
  | .idle => 0
  | .copying => 1
  | .loading => 2
  | .ready => 3
  | .active => 4
  | .retiring => 5

/-- The code of a station state. -/
def StationState.code : StationState → Nat
  | .idle => 0
  | .engaged _ => 1
  | .lockout => 2

/-- The code of a channel state. -/
def ChannelState.code : ChannelState → Nat
  | .disabled => 0
  | .ready => 1
  | .isolated => 2

/-- The code of a confirmed field. -/
def Confirmed.code : Confirmed → Nat
  | .no => 0
  | .byEye => 1
  | .byPrediction => 2

/-- The code of a last reported position; 3 is none (STATUS only). -/
def armPosCode : Option ArmPos → Nat
  | some .opened => 0
  | some .closed => 1
  | some .moving => 2
  | none => 3

/-- The position a code names, if any. -/
def armPos? (code : Nat) : Option ArmPos :=
  match code with
  | 0 => some .opened
  | 1 => some .closed
  | 2 => some .moving
  | _ => none

/-- The bank a code names, if any. -/
def bank? (code : Nat) : Option BankId :=
  match code with
  | 1 => some .a
  | 2 => some .b
  | _ => none

/-! ## Images (section 10.6) -/

/-- The line record a 46-byte image spells. -/
def lineImage (p : List Byte) : LineRecord :=
  { address := rd8 p 0, stations := rd8 p 1, node1 := rd8 p 2, node2 := rd8 p 3
    pitch := rd16 p 4, contact1 := rd16 p 6, contact2 := rd16 p 8, eyeOffset1 := rd16 p 10
    eyeOffset2 := rd16 p 12, tolerance := rd16 p 14, minGap := rd16 p 16, maxLength := rd16 p 18
    defaultDiameter := rd16 p 20, ceiling := rd16 p 22, slew := rd16 p 24, period := rd8 p 26
    reportTimeout := rd16 p 27, speedWindow := rd16 p 29, dwellTime := rd16 p 31
    dwellPercent := rd8 p 33, pulses := rd8 p 34, underSpeed := rd16 p 35
    restartSpeed := rd16 p 37, deviation := rd16 p 39, deviationLimit := rd8 p 41
    confidence := rd8 p 42, armEnable := BitVec.ofNat 10 (rd16 p 43), forwardLogs := rdFlag p 45 }

/-- The breakpoint slots of a species entry image: the first n as sent, those above n as 0 (R76). -/
def imagePoints (p : List Byte) (n : Nat) : List (Nat × Nat) :=
  (List.range 6).map (fun i => if i < n then (rd16 p (4 * i + 2), rd16 p (4 * i + 4)) else (0, 0))

/-- The species entry a 46-byte image spells, the code at offset 0 apart (R76). -/
def entryImage (p : List Byte) : SpeciesEntry :=
  { n := rd8 p 1, points := imagePoints p (rd8 p 1)
    pMin := rd16 p 26, pMax := rd16 p 28, tThaw := rdS16 p 30, tDeep := rdS16 p 32
    frozen := rd16 p 34, vRef := rd16 p 36, slope := rdS16 p 38
    entryStart := rd8 p 40, entryLength := rd16 p 41, tailEnd := rd8 p 43, tailLength := rd16 p 44 }

/-- The 46-byte image of a stored species entry, with its code as field 1 (R92). -/
def entryBytes (code : Nat) (e : SpeciesEntry) : List Byte :=
  be8 code ++ be8 e.n ++ e.points.flatMap (fun q => be16 q.1 ++ be16 q.2)
    ++ be16 e.pMin ++ be16 e.pMax ++ beS16 e.tThaw ++ beS16 e.tDeep ++ be16 e.frozen
    ++ be16 e.vRef ++ beS16 e.slope ++ be8 e.entryStart ++ be16 e.entryLength
    ++ be8 e.tailEnd ++ be16 e.tailLength

/-- The ten trims a 20-byte image spells. -/
def trimImage (p : List Byte) : List Int := (List.range 10).map (fun i => rdS16 p (2 * i))

/-- The 20-byte image of a trim table. -/
def trimBytes (t : List Int) : List Byte := t.flatMap beS16

/-! ## Scanner frames (section 10.3) -/

/-- The fields of a LOG_SCAN payload. -/
structure ScanFields where
  tag         : Byte
  species     : Byte
  confidence  : Nat
  butt        : Nat
  top         : Nat
  length      : Nat
  hasTemp     : Bool
  temperature : Int
  buttDistance : Nat
  profile     : List (Nat × Nat)
deriving DecidableEq, Repr

/-- Whether a LOG_SCAN payload has at least 15 bytes and the length its profile count calls for (R50). -/
def scanLengthOk (p : List Byte) : Bool := decide (15 ≤ p.length) && p.length == 15 + 4 * rd8 p 14

/-- The fields of a LOG_SCAN payload of the right length. -/
def scanFields (p : List Byte) : ScanFields :=
  { tag := p.getD 0 0#8, species := p.getD 1 0#8, confidence := rd8 p 2, butt := rd16 p 3
    top := rd16 p 5, length := rd16 p 7, hasTemp := rdFlag p 9, temperature := rdS16 p 10
    buttDistance := rd16 p 12
    profile := (List.range (rd8 p 14)).map (fun j => (rd16 p (15 + 4 * j), rd16 p (17 + 4 * j))) }

/-! ## Arm cycle frames (section 10.4) -/

/-- The payload of an ARM_SETPOINT: the cycle number and a node's five commands (R148). -/
def setpointPayload (number : Nat) (cs : List ArmCommand) : List Byte :=
  be16 number ++ cs.flatMap (fun c => be8 (if c.close then 1 else 0) ++ be16 c.setpoint)

/-- One arm's entry of an ARM_REPORT: measured pressure, position code, valve-fault flag. -/
structure ReportEntry where
  pressure : Nat
  position : Option ArmPos
  fault    : Bool
deriving DecidableEq, Repr

/-- The entry of arm i (0..4) of an ARM_REPORT payload. -/
def reportEntry (p : List Byte) (i : Nat) : ReportEntry :=
  { pressure := rd16 p (2 + 3 * i)
    position := armPos? (rd8 p (4 + 3 * i) % 4)
    fault := decide (128 ≤ rd8 p (4 + 3 * i)) }

/-- The five entries of an ARM_REPORT payload, in rising channel number. -/
def reportEntries (p : List Byte) : List ReportEntry := (List.range 5).map (reportEntry p)

end Sys2Proof.Machine
end

