-- ==== Sys2Proof/Machine/Stations.lean ====
section
/-! DEFINITION. The Arm Controller (Chapter 7): the station machines, their engagement and lockout, the
arm channels, their supervision and their restoring. -/

namespace Sys2Proof.Machine

/-! ## Channels -/

/-- A channel restored to READY (R140). -/
def Channel.restore (c : Channel) : Channel :=
  { c with state := .ready, pendingRestore := false, lastSent := 0, previous := 0,
           closedCycles := 0, deviations := 0 }

/-- A channel whose pending restore completes at its station's entry into IDLE (R119). -/
def Channel.completeRestore (c : Channel) : Channel := if c.pendingRestore then c.restore else c

/-- A channel that becomes ISOLATED (R137). -/
def Channel.isolate (c : Channel) : Channel :=
  { c with state := .isolated, deviations := 0, pendingRestore := false }

/-- A channel that an accepted LINE_LOAD disables (R27). -/
def Channel.disable (c : Channel) : Channel :=
  { c with state := .disabled, lastSent := 0, deviations := 0, closedCycles := 0, pendingRestore := false }

/-- An enabled channel at an accepted LINE_LOAD (R27): DISABLED becomes READY with the same values. -/
def Channel.enable (c : Channel) : Channel :=
  if c.state == .disabled
  then { c with state := .ready, lastSent := 0, deviations := 0, closedCycles := 0, pendingRestore := false }
  else c

/-- A channel at LINE_RESET (R142): READY when enabled by the record in force, else DISABLED; every
value 0 and every flag clear, and its last reported position none (R163). -/
def Channel.lineReset (enabled : Bool) : Channel :=
  { Channel.reset with state := if enabled then .ready else .disabled }

/-- The bit of the arm enable mask for arm i (0..4) of a station (R23, R178). -/
def armBit : Station → Nat → Nat
  | .one, i => i
  | .two, i => 5 + i

/-- Whether a line record enables arm i (0..4) of a station (R27). -/
def Line.enables (l : Line) (k : Station) (i : Nat) : Bool :=
  l.record.armEnable.getLsbD (armBit k i) && l.inUse k

/-- A function of the index applied along a list. -/
def mapIndexed {α β : Type} (f : Nat → α → β) : Nat → List α → List β
  | _, [] => []
  | i, x :: rest => f i x :: mapIndexed f (i + 1) rest

/-- The channels of a station changed. -/
def State.onChannels (s : State) (k : Station) (f : List Channel → List Channel) : State :=
  { s with arms := { s.arms with channels := s.arms.channels.set k (f (s.arms.channels.get k)) } }

/-! ## The station machine -/

/-- A station's state set. -/
def State.setStation (s : State) (k : Station) (x : StationState) : State :=
  { s with arms := { s.arms with stations := s.arms.stations.set k x } }

/-- A station set IDLE; an entry into IDLE completes the pending restores of its channels (R119). -/
def enterIdle (k : Station) (s : State) : State :=
  if s.arms.stations.get k == .idle then s
  else (s.setStation k .idle).onChannels k (fun cs => cs.map Channel.completeRestore)

/-- Both stations set IDLE (R22, R129). -/
def stationsIdle (s : State) : State := enterIdle .two (enterIdle .one s)

/-- Whether a station follows its machine: the mode works and the station is in use (R118). -/
def State.follows (s : State) (k : Station) : Bool :=
  s.mode.mode.works && (match s.mode.line with | some l => l.inUse k | none => false)

/-- A record lies across a station's contact line (R127). -/
def LogRecord.across (r : LogRecord) (k : Station) : Bool :=
  (r.at k).confirmed != .no && (r.at k).tracked && (r.at k).contact == .on

/-- The examination of a station in LOCKOUT (R127). -/
def examineLockout (k : Station) (s : State) : State :=
  if s.follows k && s.arms.stations.get k == .lockout && !(s.inputs.rotors.get k).under
      && !s.tracker.queue.any (fun r => r.across k)
  then enterIdle k s else s

/-- "Butt reaches contact s" (R120, R121). -/
def buttReaches (k : Station) (r : LogRecord) (s : State) : State :=
  if s.follows k && s.arms.stations.get k == .idle && (r.at k).confirmed != .no && (r.at k).tracked
      && !(s.inputs.rotors.get k).under
  then s.setStation k (.engaged r.id) else s

/-- The station at the tail of its current log (R122): passed to a joined, confirmed and tracked
successor, wherever it stands, or IDLE. -/
def passOn (k : Station) (id : Nat) (s : State) : State :=
  match successor? id s.tracker.queue with
  | some y =>
    if y.joined && (y.at k).confirmed != .no && (y.at k).tracked
    then s.setStation k (.engaged y.id) else enterIdle k s
  | none => enterIdle k s

/-- "Tail passes contact s" (R122, R123, R127). -/
def tailPasses (k : Station) (id : Nat) (s : State) : State :=
  if s.follows k then
    match s.arms.stations.get k with
    | .engaged x => if x == id then passOn k id s else s
    | .lockout => examineLockout k s
    | .idle => s
  else s

/-- "Backs out of s" for a record (R124, R127). -/
def backsOut (k : Station) (id : Nat) (s : State) : State :=
  if s.follows k then
    match s.arms.stations.get k with
    | .engaged x => if x == id || olderThan id x s.tracker.queue then enterIdle k s else s
    | .lockout => examineLockout k s
    | .idle => s
  else s

/-- A station at the entry into RUN (R118): LOCKOUT when in use and its rotor is under speed. -/
def stationAtRun (k : Station) (s : State) : State :=
  if s.follows k && (s.inputs.rotors.get k).under then s.setStation k .lockout else s

/-! ## Reports and supervision -/

/-- Whether the deviation check applies to a READY channel's entry (R134). -/
def supervised (station : StationState) (silent : Bool) (c : Channel) : Bool :=
  (match station with | .engaged _ => true | _ => false) && !silent
    && decide (Config.graceCycles ≤ c.closedCycles)

/-- The deviation check of a supervised entry (R134, R135). -/
def checkDeviation (l : LineRecord) (pressure : Nat) (c : Channel) : Channel :=
  if l.deviation < ((pressure : Int) - c.previous).natAbs then
    if l.deviationLimit ≤ c.deviations + 1 then c.isolate
    else { c with deviations := c.deviations + 1 }
  else { c with deviations := 0 }

/-- A report entry taken by its channel (R133). -/
def takeEntry (l : LineRecord) (station : StationState) (silent : Bool) (e : ReportEntry) (c : Channel) : Channel :=
  match c.state with
  | .ready =>
    if e.fault then c.isolate
    else if supervised station silent c then checkDeviation l e.pressure c
    else c
  | _ => c

/-- The five entries of a good report taken by a node's channels (R152): the channels first, then the
positions. -/
def takeEntries (l : LineRecord) (station : StationState) (silent : Bool) (es : List ReportEntry)
    (cs : List Channel) : List Channel :=
  cs.zipWith (fun c e => { takeEntry l station silent e c with position := e.position }) es

/-! ## ARM_RESTORE -/

/-- The station and the arm (0..4) of a channel number 1..10. -/
def channelPlace (n : Nat) : Station × Nat := if n ≤ 5 then (.one, n - 1) else (.two, n - 6)

/-- A channel by its number. -/
def State.channel? (s : State) (n : Nat) : Option Channel :=
  (s.arms.channels.get (channelPlace n).1)[(channelPlace n).2]?

/-- The state with a channel changed. -/
def State.onChannel (s : State) (n : Nat) (f : Channel → Channel) : State :=
  s.onChannels (channelPlace n).1 (fun cs => cs.modify (channelPlace n).2 f)

/-- Whether a restore of a channel is made at once (R139): STANDBY or TRIPPED, or its station IDLE. -/
def State.restoresAtOnce (s : State) (n : Nat) : Bool :=
  s.mode.mode == .standby || s.mode.mode == .tripped
    || s.arms.stations.get (channelPlace n).1 == .idle

/-! ## Mode Control and resets -/

/-- The channels of a station under an accepted line record (R27). Either driver node's address may
have changed, so the last reported positions become none (R164). -/
def loadChannels (l : Line) (k : Station) (cs : List Channel) : List Channel :=
  mapIndexed (fun i c => { (if l.enables k i then c.enable else c.disable) with position := none }) 0 cs

/-- The channels of a station at LINE_RESET (R142): DISABLED without a line record. -/
def resetChannels (line : Option Line) (k : Station) (cs : List Channel) : List Channel :=
  mapIndexed (fun i _ => Channel.lineReset (match line with | some l => l.enables k i | none => false)) 0 cs

end Sys2Proof.Machine
end

