-- ==== Sys2Proof/Machine/Tables.lean ====
section
/-! DEFINITION. The Table Store (Chapter 5): what each table request does to the banks, the reference
counts, and the copy engine's moves. -/

namespace Sys2Proof.Machine

/-- What an owning block answers to a request (R171): the state it leaves, the outcome with its detail,
and the reply body. -/
structure Answer where
  state   : State
  outcome : ReplyOutcome
  body    : List Byte
deriving DecidableEq, Repr

/-- A refusal that changes nothing and carries no body. -/
def refuse (s : State) (o : ReplyOutcome) : Answer := { state := s, outcome := o, body := [] }

/-- The number of the first field whose condition fails (R24, R77, R78), if any. -/
def firstFault (conditions : List (Nat × Bool)) : Option Nat :=
  (conditions.find? (fun c => !c.2)).map Prod.fst

/-- lo ≤ x ≤ hi. -/
def inRange (lo hi x : Int) : Bool := decide (lo ≤ x) && decide (x ≤ hi)

/-! ## Banks -/

/-- A bank with every entry and the trim table not loaded, in a given state (R81, R82, R95). -/
def Bank.clear (x : Bank) (state : BankState) : Bank :=
  { x with entries := List.replicate 32 none, trims := none, state := state }

/-- The target bank of TABLE_OPEN, TABLE_ENTRY, TABLE_TRIM and TABLE_CLOSE (R75). -/
def TableStore.target (t : TableStore) : BankId :=
  match t.mark with
  | some k => k.other
  | none => .a

/-- The state with a bank changed. -/
def State.setBank (s : State) (k : BankId) (x : Bank) : State :=
  { s with tables := s.tables.setBank k x }

/-- A record bound to a bank (R89). -/
def bindBank (s : State) (k : BankId) : State :=
  let x := s.tables.bank k
  s.setBank k { x with refs := x.refs + 1 }

/-- A bank whose reference count has reached 0 (R90): RETIRING becomes IDLE. -/
def Bank.settle (x : Bank) : Bank :=
  if x.state == .retiring && x.refs == 0 then { x with state := .idle } else x

/-- A single record released from its bank (R89, R90). -/
def releaseBank (s : State) (k : BankId) : State :=
  let x := s.tables.bank k
  s.setBank k ({ x with refs := x.refs - 1 } : Bank).settle

/-- Both counts 0 with the effects of R90 (R89), as a flush leaves them (R22). -/
def TableStore.releaseAll (t : TableStore) : TableStore :=
  { t with a := ({ t.a with refs := 0 } : Bank).settle, b := ({ t.b with refs := 0 } : Bank).settle }

/-- Whether the ACTIVE bank's entry for a code 0..31 is loaded (R93). -/
def TableStore.activeLoaded (t : TableStore) (code : Nat) : Bool :=
  match t.mark with
  | some k => ((t.bank k).entry code).isSome
  | none => false

/-! ## TABLE_OPEN -/

/-- TABLE_OPEN clear on the target (R80, R81). -/
def openClear (s : State) : Answer :=
  let k := s.tables.target
  match (s.tables.bank k).state with
  | .copying => refuse s .busy
  | .retiring => refuse s .bankRetiring
  | _ =>
    { state := s.setBank k ((s.tables.bank k).clear .loading), outcome := .done
      body := be8 k.code ++ be8 0 }

/-- What TABLE_OPEN copy comes to (R80): a refusal, or the state with the copy begun (R82). -/
def openCopy (s : State) : State × Option ReplyOutcome :=
  let k := s.tables.target
  match (s.tables.bank k).state, s.tables.mark with
  | .copying, _ => (s, some .busy)
  | .retiring, _ => (s, some .bankRetiring)
  | _, none => (s, some .noActiveBank)
  | _, some src =>
    let t := s.tables.setBank k ((s.tables.bank k).clear .copying)
    ({ s with tables := { t with copy := some { source := src, dest := k, start := s.now, item := 0 } } }, none)

/-! ## TABLE_ENTRY and TABLE_TRIM -/

/-- The conditions on breakpoint i, 0-based, of an image (R77); a slot above n meets them. -/
def pointConditions (p : List Byte) (n i : Nat) : List (Nat × Bool) :=
  let d := rd16 p (4 * i + 2)
  let above := i == 0 || decide (rd16 p (4 * i - 2) < d)
  [(2 * i + 3, decide (n ≤ i) || (inRange 40 1200 d && above)),
   (2 * i + 4, decide (n ≤ i) || inRange 0 16000 (rd16 p (4 * i + 4)))]

/-- The conditions of R77, in rising field number. -/
def entryConditions (p : List Byte) : List (Nat × Bool) :=
  let e := entryImage p
  [(1, decide (rd8 p 0 ≤ 31)), (2, inRange 2 6 e.n)]
    ++ (List.range 6).flatMap (pointConditions p e.n)
    ++ [(15, decide (e.pMin ≤ 16000)),
        (16, inRange e.pMin 16000 e.pMax),
        (17, inRange (-100) 50 e.tThaw),
        (18, decide (-400 ≤ e.tDeep) && decide (e.tDeep < e.tThaw)),
        (19, inRange 100 300 e.frozen),
        (20, inRange 100 3000 e.vRef),
        (21, inRange (-100) 100 e.slope),
        (22, inRange 20 100 e.entryStart),
        (23, decide (e.entryLength ≤ 2000)),
        (24, inRange 20 100 e.tailEnd),
        (25, decide (e.tailLength ≤ 2000))]

/-- TABLE_ENTRY (R85): by the target's state first, then the body. -/
def writeEntry (p : List Byte) (s : State) : Answer :=
  let k := s.tables.target
  let x := s.tables.bank k
  match x.state with
  | .loading =>
    match firstFault (entryConditions p) with
    | some f => refuse s (.badValue f)
    | none =>
      let x' : Bank := { x with entries := x.entries.set (rd8 p 0) (some (entryImage p)) }
      { state := s.setBank k x', outcome := .done
        body := be8 k.code ++ be8 (rd8 p 0) ++ be8 x'.loadedCount }
  | .copying => refuse s .busy
  | _ => refuse s .bankNotLoading

/-- The conditions of R78, in rising field number. -/
def trimConditions (p : List Byte) : List (Nat × Bool) :=
  (List.range 10).map (fun i => (i + 1, inRange (-800) 800 (rdS16 p (2 * i))))

/-- TABLE_TRIM (R85). -/
def writeTrims (p : List Byte) (s : State) : Answer :=
  let k := s.tables.target
  let x := s.tables.bank k
  match x.state with
  | .loading =>
    match firstFault (trimConditions p) with
    | some f => refuse s (.badValue f)
    | none =>
      { state := s.setBank k { x with trims := some (trimImage p) }, outcome := .done, body := be8 k.code }
  | .copying => refuse s .busy
  | _ => refuse s .bankNotLoading

/-! ## TABLE_CLOSE, TABLE_SWAP and TABLE_READ -/

/-- TABLE_CLOSE (R86). Every outcome names the target and its loaded count. -/
def closeBank (s : State) : Answer :=
  let k := s.tables.target
  let x := s.tables.bank k
  let body := be8 k.code ++ be8 x.loadedCount
  match x.state with
  | .loading =>
    if (x.entry 0).isSome
    then { state := s.setBank k { x with state := .ready }, outcome := .done, body := body }
    else { state := s, outcome := .entryMissing, body := body }
  | .copying => { state := s, outcome := .busy, body := body }
  | _ => { state := s, outcome := .bankNotLoading, body := body }

/-- The READY bank, if there is one (R87). -/
def TableStore.readyBank (t : TableStore) : Option BankId :=
  if t.a.state == .ready then some .a else if t.b.state == .ready then some .b else none

/-- A bank that a swap takes out of ACTIVE (R87); any other bank keeps its state. -/
def Bank.swappedOut (x : Bank) : Bank :=
  if x.state == .active then { x with state := if x.refs == 0 then .idle else .retiring } else x

/-- TABLE_SWAP (R87). -/
def swapBanks (s : State) : Answer :=
  match s.tables.readyBank with
  | none => refuse s .noReadyBank
  | some k =>
    let old := (s.tables.bank k.other).swappedOut
    let new : Bank := { s.tables.bank k with state := .active }
    { state := { s with tables := { (s.tables.setBank k new).setBank k.other old with mark := some k } }
      outcome := .done
      body := be8 k.code ++ be8 old.state.code ++ be8 old.refs }

/-- TABLE_READ (R92). -/
def readTable (bank item : Byte) (s : State) : Answer :=
  match bank? bank.toNat with
  | none => refuse s (.badValue 1)
  | some k =>
    let x := s.tables.bank k
    let head := be8 k.code ++ be8 x.state.code
    if item.toNat == Config.trimItem then
      match x.trims with
      | some t => { state := s, outcome := .done, body := head ++ trimBytes t }
      | none => refuse s .notLoaded
    else if 32 ≤ item.toNat then refuse s (.badValue 2)
    else
      match x.entry item.toNat with
      | some e => { state := s, outcome := .done, body := head ++ entryBytes item.toNat e }
      | none => refuse s .notLoaded

/-! ## The copy engine -/

/-- The moment the copy engine's next item falls due (R83). -/
def CopyEngine.due (c : CopyEngine) : Nat := c.start + Config.copyStep * (c.item + 1)

/-- One item moved from the source bank to the destination (R83): its loaded flag and its image. -/
def moveItem (item : Nat) (src dst : Bank) : Bank :=
  if item < 32 then { dst with entries := dst.entries.set item (src.entry item) }
  else { dst with trims := src.trims }

/-- Copy-complete (R84): the destination LOADING, and DONE composed into the reserved slot (R169). -/
def copyComplete (k : BankId) (s : State) : State :=
  let x := s.tables.bank k
  let s := s.setBank k { x with state := .loading }
  let s := { s with tables := { s.tables with copy := none } }
  match s.requests.inFlight with
  | none => s
  | some q =>
    let f := s.replyFrame q.dest q.num 4#8 .done (be8 k.code ++ be8 x.loadedCount)
    ({ s with requests := { s.requests with inFlight := none } } : State).placeReply f

/-- The copy engine moves its next item (R83). -/
def moveNextItem (s : State) : State :=
  match s.tables.copy with
  | none => s
  | some c =>
    let s := s.reach c.due
    let s := s.setBank c.dest (moveItem c.item (s.tables.bank c.source) (s.tables.bank c.dest))
    if c.item < 32
    then { s with tables := { s.tables with copy := some { c with item := c.item + 1 } } }
    else copyComplete c.dest s

/-- A bank at LINE_RESET (R95). -/
def Bank.lineReset (x : Bank) : Bank :=
  { (if x.state == .active then x else x.clear .idle) with refs := 0 }

/-- The Table Store at LINE_RESET (R95): the ACTIVE bank keeps its contents; any other is cleared; the
counts become 0; a copy is abandoned; the mark stays. -/
def TableStore.lineReset (t : TableStore) : TableStore :=
  { t with a := t.a.lineReset, b := t.b.lineReset, copy := none }

end Sys2Proof.Machine
end

