-- ==== Sys2Proof/Machine/Tracking.lean ====
section
/-! DEFINITION. The Log Tracker (Chapter 4): scans and voids, positions and positional events, eye
edges, window closes, joins, lengths and removals. Where a rule reads the line record and none is
present, the queue is empty and nothing happens. -/

namespace Sys2Proof.Machine

/-! ## Lengths (R56) -/

/-- mm into counts (R25, R51). -/
def mmToCounts (pitch : Nat) (mm : Int) : Int := roundDiv (mm * 1000) pitch

/-- Counts into mm (R56). -/
def countsToMm (pitch : Nat) (n : Int) : Int := roundDiv (n * pitch) 1000

/-- The minimum length count, the count of 1000 mm (R56). -/
def Line.minLength (l : Line) : Int := mmToCounts l.record.pitch 1000

/-- A length formed in counts, brought into range, with its L_mm (R56). -/
def lengthOfCounts (l : Line) (n : Int) : LogLength :=
  let c := clampInt l.minLength l.counts.maxLength n
  { counts := c, mm := countsToMm l.record.pitch c }

/-- A length from a scan, in mm (R56). -/
def lengthOfMm (l : Line) (mm : Nat) : LogLength :=
  { counts := mmToCounts l.record.pitch mm, mm := mm }

/-! ## The joined flag (R69) -/

/-- The joined flag of a queued record decided (R69). -/
def rejoin (l : Line) (fresh : Bool) (id : Nat) (s : State) : State :=
  s.update id (fun r =>
    { r with joined := decideJoined l.counts.minGap fresh (predecessor? id s.tracker.queue) r })

/-- The joined flag of a record's successor re-decided (R69). -/
def rejoinSuccessor (l : Line) (id : Nat) (s : State) : State :=
  match successor? id s.tracker.queue with
  | some y => rejoin l false y.id s
  | none => s

/-! ## Removal (R72) -/

/-- Why a single record leaves the queue (R72). -/
inductive Removal where
  | voided
  | lost
  | pendingLost
  | completed
deriving DecidableEq, Repr

/-- The counter of a removal (R72). -/
def Removal.counter? : Removal → Option Counter
  | .voided => none
  | .lost => some .logsLost
  | .pendingLost => some .logsLost
  | .completed => some .logsCompleted

/-- Whether the successor's joined flag is re-decided at a removal (R69). -/
def Removal.rejoins : Removal → Bool
  | .voided => true
  | .lost => true
  | .pendingLost => false
  | .completed => false

/-- A counter raised, if there is one. -/
def State.bump? (s : State) : Option Counter → State
  | some c => s.bump c
  | none => s

/-- FINISHING ends when the log queue becomes empty (R19), with both stations set IDLE (R129). -/
def endFinishing (s : State) : State :=
  if s.mode.mode == .finishing && s.tracker.queue.isEmpty
  then stationsIdle { s with mode := { s.mode with mode := .standby } }
  else s

/-- A station that is still ENGAGED with a record that is removed falls IDLE, so that the law of R117 holds
(DESIGN CHOICE, log 31). R128 takes it that there is none; R122, which examines no position, can hand a
station a joined successor that is CLEAR there already and then completes at the other station. -/
def dropEngaged (id : Nat) (k : Station) (s : State) : State :=
  if s.arms.stations.get k == .engaged id then enterIdle k s else s

/-- A single record removed, whatever the cause (R72, R128). A station still ENGAGED with it falls IDLE (log 31). -/
def removeRecord (l : Line) (id : Nat) (why : Removal) (s : State) : State :=
  match s.record? id with
  | none => s
  | some r =>
    let succ := successor? id s.tracker.queue
    let s := { s with tracker := { s.tracker with queue := s.tracker.queue.filter (fun x => x.id != id) } }
    let s := releaseBank s r.bank
    let s := match succ with
      | some y => if why.rejoins then rejoin l false y.id s else s
      | none => s
    let s := s.bump? why.counter?
    let s := dropEngaged id .two (dropEngaged id .one s)
    let s := examineLockout .two (examineLockout .one s)
    endFinishing s

/-- A lost-pending record removed when no station is ENGAGED with it any longer (R68, R125). -/
def releasePending (l : Line) (id : Nat) (s : State) : State :=
  match s.record? id with
  | some r => if r.pendingLoss && !s.isEngaged id then removeRecord l id .pendingLost s else s
  | none => s

/-! ## Positions and events (R57 to R59) -/

/-- What a change at a station comes to for the record: it goes on, its window closed on a clear eye
with no station engaged (R67), or its tail passed the last station (R71). -/
inductive Fate where
  | stays
  | lost
  | completed
deriving DecidableEq, Repr

/-- A window closed with the eye dark or faulted (R66): confirmed by prediction; with the eye dark and
OK the join is forced. -/
def predicted (forced hasPredecessor : Bool) (k : Station) (r : LogRecord) : LogRecord :=
  let r := r.setAt k { r.at k with confirmed := .byPrediction }
  if forced then { r with joinForced := true, joined := hasPredecessor } else r

/-- A window closes at a station (R66, R67). -/
def closeWindow (k : Station) (id : Nat) (s : State) : State × Fate :=
  let eye := s.inputs.eyes.get k
  if eye.dark || s.tracker.faulted.get k then
    let forced := eye.dark && !eye.fault
    (s.update id (predicted forced (predecessor? id s.tracker.queue).isSome k), .stays)
  else if s.isEngaged id then
    (s.update id (fun r => r.setAt k { r.at k with lostPending := true }), .stays)
  else (s, .lost)

/-- The window position of a record at a station re-evaluated (R57). -/
def windowStep (l : Line) (k : Station) (id : Nat) (s : State) : State × Fate :=
  match s.record? id with
  | none => (s, .stays)
  | some r =>
    let w := windowPos l.counts k (s.position r)
    let s := s.update id (fun x => x.setAt k { x.at k with window := w })
    if windowCloses (r.at k) w then closeWindow k id s else (s, .stays)

/-- The positional events of a change of contact position (R58), handed to the Arm Controller. -/
def contactEvents (k : Station) (r : LogRecord) (was now : ContactPos) (s : State) : State × Bool :=
  match was, now with
  | .short, .on => (buttReaches k r s, false)
  | .on, .clear => (tailPasses k r.id s, true)
  | .on, .short => (backsOut k r.id s, false)
  | .short, .clear => (tailPasses k r.id (buttReaches k r s), true)
  | .clear, .short => (backsOut k r.id s, false)
  | _, _ => (s, false)

/-- The contact position of a record at a station re-evaluated (R58); a tail pass at the last station
in use completes the record (R71). -/
def contactStep (l : Line) (k : Station) (id : Nat) (s : State) : State × Fate :=
  match s.record? id with
  | none => (s, .stays)
  | some r =>
    let c := contactPos l.counts k r.length (s.position r)
    let s := s.update id (fun x => x.setAt k { x.at k with contact := c })
    if (r.at k).tracked then
      let e := contactEvents k r (r.at k).contact c s
      (e.1, if e.2 && k == l.last then .completed else .stays)
    else (s, .stays)

/-- The changes of one record at one station: the window change, then the contact change (R59). -/
def stationStep (l : Line) (id : Nat) (k : Station) (a : State × Fate) : State × Fate :=
  if a.2 == .stays then
    let w := windowStep l k id a.1
    if w.2 == .stays then contactStep l k id w.1 else w
  else a

/-- Whether an unknown length has reached its limit at some station in use (R70). -/
def atLengthLimit (l : Line) (pos : Int) (r : LogRecord) : Bool :=
  r.length.isNone &&
    l.used.any (fun k => !(r.at k).passedUnseen && decide (l.counts.contact.get k + l.counts.maxLength ≤ pos))

/-- The length limit (R70): the length is set and the successor's flag re-decided; the contact positions
follow in the record's own handling. -/
def limitLength (l : Line) (id : Nat) (s : State) : State :=
  match s.record? id with
  | none => s
  | some r =>
    if atLengthLimit l (s.position r) r then
      rejoinSuccessor l id
        (s.update id (fun x => { x with length := some (lengthOfCounts l l.counts.maxLength) }))
    else s

/-- The record's removal at the end of its own handling (R59, point 4). -/
def settleFate (l : Line) (id : Nat) (a : State × Fate) : State :=
  match a.2 with
  | .lost => removeRecord l id .lost a.1
  | .completed => removeRecord l id .completed a.1
  | .stays => releasePending l id a.1

/-- One record's positions re-evaluated at every station in use, its events handed over in the order of
R59, and its removal. -/
def reevaluate (l : Line) (s : State) (id : Nat) : State :=
  settleFate l id (l.used.foldl (fun a k => stationStep l id k a) (limitLength l id s, .stays))

/-- A change of T handed to the Log Tracker (R30, R57 to R59): the records oldest first. -/
def travelChanged (s : State) : State :=
  match s.mode.line with
  | none => s
  | some l => (s.tracker.queue.map LogRecord.id).foldl (reevaluate l) s

/-! ## Scans and voids (R50 to R55) -/

/-- A fresh standing at a position, set without events (R54). -/
def freshStanding (l : Line) (k : Station) (len : Option LogLength) (pos : Int) : Standing :=
  { confirmed := .no, lostPending := false, measured := false, passedUnseen := false
    window := windowPos l.counts k pos, contact := contactPos l.counts k len pos }

/-- The standing held for a station that is not in use (R49, R173). -/
def unusedStanding : Standing :=
  { confirmed := .no, lostPending := false, measured := false, passedUnseen := false
    window := .short, contact := .short }

/-- The standing of a new record at station 2: held when it is in use (R49). -/
def freshSecond (l : Line) (len : Option LogLength) (pos : Int) : Standing :=
  if l.inUse .two then freshStanding l .two len pos else unusedStanding

/-- Whether the distances of a profile strictly increase (R52). -/
def strictlyRising : List (Nat × Nat) → Bool
  | [] => true
  | [_] => true
  | p :: q :: rest => decide (p.1 < q.1) && strictlyRising (q :: rest)

/-- The profile a record keeps (R52): a count of 2..8, rising distances, none above the length held;
otherwise none. Its diameters are brought into range (R51). -/
def keptProfile (length : Nat) (p : List (Nat × Nat)) : List (Nat × Nat) :=
  if decide (2 ≤ p.length) && decide (p.length ≤ 8) && strictlyRising p
      && p.all (fun q => decide (q.1 ≤ length))
  then p.map (fun q => (q.1, clampNat 40 1200 q.2)) else []

/-- The effective species of a scan (R52). -/
def effectiveSpecies (s : State) (l : Line) (species : Byte) (confidence : Nat) : Nat :=
  if decide (species.toNat ≤ 31) && s.tables.activeLoaded species.toNat
      && decide (l.record.confidence ≤ confidence)
  then species.toNat else 0

/-- The temperature of a scanned record (R51, R52). -/
def scanTemperature (s : State) (f : ScanFields) : Option Int :=
  if f.hasTemp then some (clampInt (-500) 500 f.temperature) else s.mode.ambient

/-- The bank a new record is bound to: the ACTIVE bank (R54). In RUN there is one (R79); the model names
bank A where there is none (log 17). -/
def TableStore.bindTo (t : TableStore) : BankId := t.mark.getD .a

/-- The record a LOG_SCAN makes (R51, R52, R54). -/
def scanRecord (s : State) (l : Line) (f : ScanFields) (b : Travel) : LogRecord :=
  let mm := clampNat 1000 l.record.maxLength f.length
  let len := some (lengthOfMm l mm)
  let confidence := min f.confidence 100
  let pos := travelDiff s.travel.t b
  { id := s.tracker.nextId, origin := .scanned, tag := some f.tag, scanned := f.species
    species := effectiveSpecies s l f.species confidence, confidence := confidence
    butt := clampNat 40 1200 f.butt, top := clampNat 40 1200 f.top
    profile := keptProfile mm f.profile, length := len, temperature := scanTemperature s f
    bank := s.tables.bindTo, b := b, joined := false, joinForced := false
    at1 := freshStanding l .one len pos, at2 := freshSecond l len pos }

/-- The butt count of a LOG_SCAN (R51, R53). -/
def scanButt (s : State) (l : Line) (f : ScanFields) : Travel :=
  travelBack s.travel.t (mmToCounts l.record.pitch (min f.buttDistance 30000 : Nat))

/-- Whether R53 rejects a LOG_SCAN: duplicate, out of order or late. -/
def scanRejected (s : State) (l : Line) (f : ScanFields) (b : Travel) : Bool :=
  let pos := travelDiff s.travel.t b
  s.tracker.queue.any (fun r => r.tag == some f.tag)
    || (match s.tracker.queue.getLast? with
        | some r => decide (s.position r ≤ pos)
        | none => false)
    || decide (l.counts.eye.one - l.counts.tolerance ≤ pos)

/-- A record appended at the end of the queue, bound to its bank, with its joined flag decided (R54). -/
def appendRecord (l : Line) (r : LogRecord) (s : State) : State :=
  let s := { s with tracker := { s.tracker with queue := s.tracker.queue ++ [r], nextId := s.tracker.nextId + 1 } }
  rejoin l true r.id (bindBank s r.bank)

/-- A LOG_SCAN taken by the Log Tracker (R50 to R54). -/
def takeScan (p : List Byte) (s : State) : State :=
  match s.mode.mode, s.mode.line with
  | .run, some l =>
    if scanLengthOk p then
      let f := scanFields p
      let b := scanButt s l f
      if scanRejected s l f b then s.bump .scanRejected
      else if Config.maxRecords ≤ s.tracker.queue.length then s.bump .scanOverflow
      else appendRecord l (scanRecord s l f b) s
    else s.bump .scanRejected
  | _, _ => s.bump .scanRejected

/-- The record a LOG_VOID names: its tag, still unconfirmed at station 1 (R55). -/
def voidable (p : List Byte) (q : List LogRecord) : Option LogRecord :=
  match p with
  | [tag] => q.find? (fun r => r.tag == some tag && r.at1.confirmed == .no)
  | _ => none

/-- A LOG_VOID taken by the Log Tracker (R55). -/
def takeVoid (p : List Byte) (s : State) : State :=
  match voidable p s.tracker.queue, s.mode.line with
  | some r, some l => removeRecord l r.id .voided s
  | _, _ => s.bump .voidUnmatched

/-! ## At the eye (R60 to R65) -/

/-- A candidate for confirmation at a station (R60). -/
def candidate (k : Station) (r : LogRecord) : Bool :=
  (r.at k).window == .within && (r.at k).confirmed == .no && (r.at k).tracked

/-- A record whose window a second edge falls in (R61). -/
def confirmedInWindow (k : Station) (r : LogRecord) : Bool :=
  (r.at k).window == .within && (r.at k).confirmed != .no && (r.at k).tracked

/-- Whether a new butt count keeps the strict order of R47 against a record's neighbours (R60). -/
def keepsOrder (id : Nat) (b : Travel) (q : List LogRecord) : Bool :=
  (match predecessor? id q with | some p => decide (0 < travelDiff b p.b) | none => true) &&
    (match successor? id q with | some y => decide (0 < travelDiff y.b b) | none => true)

/-- The candidate confirmed by eye and rebased (R60). The events of its moved positions come first, then
the joined flags of the record and of its successor (log 13). -/
def confirmByEye (l : Line) (k : Station) (id : Nat) (s : State) : State :=
  let b := travelBack s.travel.t (l.counts.eye.get k)
  let kept := keepsOrder id b s.tracker.queue
  let s := s.update id (fun r => r.setAt k { r.at k with confirmed := .byEye })
  if kept then
    let s := reevaluate l (s.update id (fun r => { r with b := b })) id
    match s.record? id with
    | some _ => rejoinSuccessor l id (rejoin l false id s)
    | none => s
  else s

/-- The standing of a synthetic record at the station whose eye saw it (R62, R63). -/
def seenStanding : Standing :=
  { confirmed := .byEye, lostPending := false, measured := false, passedUnseen := false
    window := .within, contact := .short }

/-- The synthetic record of an unscanned log (R62), or of a log unseen by station 1 (R63). -/
def syntheticRecord (s : State) (l : Line) (k : Station) (b : Travel) : LogRecord :=
  let pos := travelDiff s.travel.t b
  { id := s.tracker.nextId, origin := .synthetic, tag := none, scanned := 0#8, species := 0
    confidence := 0, butt := l.record.defaultDiameter, top := l.record.defaultDiameter
    profile := [], length := none, temperature := s.mode.ambient, bank := s.tables.bindTo, b := b
    joined := false, joinForced := false
    at1 := match k with
      | .one => seenStanding
      | .two => { freshStanding l .one none pos with passedUnseen := true }
    at2 := match k with
      | .one => freshSecond l none pos
      | .two => seenStanding }

/-- A record inserted at the place that keeps the order of R47: before the first record whose butt count
is greater. -/
def insertRecord (r : LogRecord) : List LogRecord → List LogRecord
  | [] => [r]
  | x :: rest => if 0 < travelDiff x.b r.b then r :: x :: rest else x :: insertRecord r rest

/-- A synthetic record inserted in butt order, bound to its bank, with its joined flag and its
successor's decided, counted in LOGS_UNSCANNED (R62, R63). -/
def addSynthetic (l : Line) (r : LogRecord) (s : State) : State :=
  let s := { s with tracker := { s.tracker with queue := insertRecord r s.tracker.queue, nextId := s.tracker.nextId + 1 } }
  let s := rejoinSuccessor l r.id (rejoin l true r.id (bindBank s r.bank))
  s.bump .logsUnscanned

/-- An edge outside every window (R62, R63). -/
def unscannedLog (l : Line) (k : Station) (s : State) : State :=
  let b := travelBack s.travel.t (l.counts.eye.get k)
  if s.mode.mode != .run then s
  else if s.tracker.queue.any (fun r => r.b == b) then s
  else if Config.maxRecords ≤ s.tracker.queue.length then s.bump .unscannedDropped
  else addSynthetic l (syntheticRecord s l k b) s

/-- A rising edge of an eye in state OK handed to the Log Tracker (R60 to R63). -/
def risingEdge (k : Station) (s : State) : State :=
  match s.mode.line with
  | none => s
  | some l =>
    if l.inUse k then
      match s.tracker.queue.find? (candidate k) with
      | some r => confirmByEye l k r.id s
      | none => if s.tracker.queue.any (confirmedInWindow k) then s else unscannedLog l k s
    else s

/-- A record a falling edge may measure (R64). -/
def measurable (k : Station) (r : LogRecord) : Bool :=
  (r.at k).confirmed != .no && !(r.at k).measured && (r.at k).tracked

/-- A measured length taken (R64): the successor's flag is re-decided before the events (R122). -/
def measure (l : Line) (k : Station) (n : Int) (id : Nat) (s : State) : State :=
  let s := s.update id (fun r =>
    ({ r with length := some (lengthOfCounts l n) } : LogRecord).setAt k { r.at k with measured := true })
  reevaluate l (rejoinSuccessor l id s) id

/-- A falling edge of an eye in state OK handed to the Log Tracker (R64). -/
def fallingEdge (k : Station) (s : State) : State :=
  match s.mode.line with
  | none => s
  | some l =>
    if l.inUse k then
      match s.tracker.queue.reverse.find? (measurable k) with
      | some r =>
        let n := s.position r - l.counts.eye.get k
        if l.minLength ≤ n then measure l k n r.id s else s
      | none => s
    else s

/-- The Log Tracker's mark of a faulted eye set from an entry into or a clearing of FAULT (R65); the
edges of eye 2 are not taken on a line of one station (R49). -/
def markFaulted (k : Station) (f : Bool) (s : State) : State :=
  match s.mode.line with
  | some l =>
    if l.inUse k then { s with tracker := { s.tracker with faulted := s.tracker.faulted.set k f } } else s
  | none => s

/-- The log queue emptied with both counts and both stations (R22, R73). -/
def flush (s : State) : State :=
  stationsIdle
    { s with tracker := { s.tracker with queue := [] }, tables := s.tables.releaseAll }

end Sys2Proof.Machine
end

