-- ==== Sys2Proof/Machine/Cycle.lean ====
section
/-! DEFINITION. The Cycle Master (Chapter 8), the Port D transmitter (R14) and the composition of the
ten channels (R97, R131). -/

namespace Sys2Proof.Machine

/-! ## Composition -/

/-- The B5 and B6 of a channel whose station is ENGAGED with a record (R97, R98), with the trim of arm
i. None where the record or its entry is not there, which no run reaches (R91, R117; log 17). -/
def State.target (s : State) (l : Line) (k : Station) (i : Nat) (id : Nat) : Option (Int × Int) :=
  match s.record? id with
  | none => none
  | some r =>
    let bank := s.tables.bank r.bank
    match bank.entry r.species with
    | none => none
    | some e =>
      let p : PressureInputs :=
        { travel := s.travel.t, contact := l.counts.contact.get k, pitch := l.record.pitch
          ceiling := l.record.ceiling, feed := s.travel.feed, dwell := s.travel.dwell
          dwellPercent := l.record.dwellPercent
          successorJoined := (match successor? id s.tracker.queue with | some y => y.joined | none => false)
          trim := (match bank.trims with | some t => t.getD (armBit k i) 0 | none => 0) }
      some (pressureB5 p e r, pressureB6 p e r)

/-- The target of a channel commanded CLOSE, none for OPEN (R97): the mode works, the channel is READY
and its station ENGAGED. -/
def State.closeTarget (s : State) (k : Station) (i : Nat) (c : Channel) : Option (Line × Int × Int) :=
  match s.mode.line, s.arms.stations.get k with
  | some l, .engaged id =>
    if s.mode.mode.works && c.state == .ready
    then (s.target l k i id).map (fun b => (l, b.1, b.2)) else none
  | _, _ => none

/-- A channel composed (R97, R113 to R115, R131): the slewed setpoint for CLOSE, 0 for OPEN, and the
bookkeeping brought forward. -/
def composeChannel (s : State) (k : Station) (i : Nat) (c : Channel) : Channel :=
  match s.closeTarget k i c with
  | some (l, b5, b6) =>
    { c with previous := c.lastSent, lastSent := slewed l.record.slew c.lastSent b6
             closedCycles := riseTo 255 c.closedCycles, clamp := clampFlag b5 b6 }
  | none =>
    { c with previous := c.lastSent, lastSent := 0, closedCycles := 0, deviations := 0, clamp := false }

/-- The command composed for a channel (R97), with the setpoint its composition leaves as last sent. -/
def commandOf (s : State) (k : Station) (i : Nat) (c : Channel) : ArmCommand :=
  { close := (s.closeTarget k i c).isSome, setpoint := (composeChannel s k i c).lastSent }

/-- All ten channels composed from the state as it stands, and the ARM_SETPOINT contents taken from the
composition (R146, points 2 and 3). -/
def compose (s : State) : State :=
  let cs := s.arms.channels
  let channels : Pair (List Channel) :=
    { one := mapIndexed (composeChannel s .one) 0 cs.one
      two := mapIndexed (composeChannel s .two) 0 cs.two }
  let frames : Pair (List ArmCommand) :=
    { one := mapIndexed (commandOf s .one) 0 cs.one
      two := mapIndexed (commandOf s .two) 0 cs.two }
  { s with arms := { s.arms with channels := channels }, cycle := { s.cycle with composed := some frames } }

/-! ## Port D transmitter (R14) -/

/-- A frame in reception on Port D is aborted when the transmitter begins to drive (R3, R4). -/
def abortReception (s : State) : State :=
  if s.portD.rx.receiving
  then ({ s with portD := { s.portD with rx := s.portD.rx.hunt } } : State).bump .framesAborted
  else s

/-- A frame given to the Port D transmitter (R14): it begins to drive, or, while it drives, the frame
waits for the end of the one on the wire. -/
def driveD (f : Frame) (s : State) : State :=
  match s.portD.tx with
  | some _ => { s with portD := { s.portD with waiting := s.portD.waiting ++ [f] } }
  | none =>
    let s := abortReception s
    let sending : Sending := { frame := f, bytes := wire f, endsAt := s.now + wireTime f }
    { s with portD := { s.portD with tx := some sending } }

/-! ## Cycle starts -/

/-- The CYCLE_SYNC frame (R147). -/
def syncFrame (s : State) : Frame :=
  { dest := Config.broadcast, src := s.switch.ownAddr, kind := 0x30#8, payload := be16 s.cycle.number }

/-- The address of a valve driver node (R148). -/
def nodeAddr (l : Line) : Station → Byte
  | .one => BitVec.ofNat 8 l.record.node1
  | .two => BitVec.ofNat 8 l.record.node2

/-- The ARM_SETPOINT frame of a node (R148). -/
def setpointFrame (s : State) (l : Line) (k : Station) : Frame :=
  { dest := nodeAddr l k, src := s.switch.ownAddr, kind := 0x31#8
    payload := setpointPayload s.cycle.number
      (match s.cycle.composed with | some c => c.get k | none => []) }

/-- A cycle start taken (R145, R146): the next start due one period later, the cycle number raised, the
channels composed, CYCLE_SYNC handed to the transmitter. -/
def startCycle (s : State) : State :=
  match s.mode.line with
  | none => s
  | some l =>
    let s := compose
      { s with cycle := { s.cycle with
          number := (s.cycle.number + 1) % 65536, phase := .sync
          nextDue := some (s.now + l.record.period * 1000)
          wait := none, deferred := false, cutPending := false } }
    driveD (syncFrame s) s

/-- Whether the last byte of the frame in reception on Port D arrives together with the command being taken:
it waits in the queue directly behind it (R162; DESIGN CHOICE, log 32). -/
def State.lastByteWaits (s : State) : Bool :=
  match s.pending with
  | .receiveByte .d b :: _ => (s.portD.rx.take s.now b).2.ends
  | _ => false

/-- A frame in reception on Port D whose last byte arrives together with a cut taken first has ended, and is
not aborted when CYCLE_SYNC drives: the receiver is kept as it stands for that byte (R162, log 32). -/
def holdReception (s : State) : State :=
  if s.portD.rx.receiving && s.lastByteWaits
  then { s with portD := { s.portD with
           rx := s.portD.rx.hunt, cut := some { rx := s.portD.rx, moment := s.now } } }
  else s

/-- The cycle in progress cut (R161): waits abandoned uncounted, composed frames not yet sent dropped,
and a new start taken at once or at the end of the frame on the wire. -/
def cutCycle (s : State) : State :=
  let s := { s with cycle := { s.cycle with wait := none, deferred := false, composed := none } }
  match s.portD.tx with
  | some _ => { s with cycle := { s.cycle with cutPending := true } }
  | none => startCycle (holdReception s)

/-- A deferred start taken once the exchange that deferred it has ended (R145). -/
def takeDeferred (s : State) : State :=
  match s.cycle.phase with
  | .window .idle => if s.cycle.deferred then startCycle s else s
  | .window .closed => if s.cycle.deferred then startCycle s else s
  | _ => s

/-! ## The service window (R156 to R158) -/

/-- The phase WINDOW with a forwarding state. -/
def State.forwarding (s : State) (f : Forwarding) : State :=
  { s with cycle := { s.cycle with phase := .window f } }

/-- A head's need, µs (R156): its wire time, and the report timeout when a reply is awaited. -/
def headNeed (l : Line) (e : DownEntry) : Nat :=
  wireTime e.frame + (if e.awaited then l.record.reportTimeout else 0)

/-- The remaining time, µs (R156): 0 when the start is already due. -/
def State.remaining (s : State) : Nat :=
  match s.cycle.nextDue with
  | some d => d - s.now
  | none => 0

/-- A head that fits is removed and sent (R158, R12). -/
def sendHead (e : DownEntry) (rest : List DownEntry) (s : State) : State :=
  driveD e.frame
    { s with
      switch := { s.switch with down := rest }
      cycle := { s.cycle with phase := .window (.sending e.awaited e.frame.dest), headMiss := 0 } }

/-- The head examined after a frame of this window, or for a frame offered while forwarding is idle
(R156): no head miss. -/
def examineHead (l : Line) (s : State) : State :=
  match s.switch.down with
  | [] => s.forwarding .idle
  | e :: rest => if headNeed l e ≤ s.remaining then sendHead e rest s else s.forwarding .closed

/-- A head miss that leaves the head queued (R157). -/
def missHead (n : Nat) (s : State) : State :=
  { s with cycle := { s.cycle with phase := .window .closed, headMiss := n } }

/-- The head examined at the window's opening (R156, R157). A third consecutive miss discards the head
and examines the next at once, which then takes at most its own first miss. -/
def openExamine (l : Line) (s : State) : State :=
  match s.switch.down with
  | [] => s.forwarding .idle
  | e :: rest =>
    if headNeed l e ≤ s.remaining then sendHead e rest s
    else if s.cycle.headMiss + 1 < Config.missLimit then missHead (s.cycle.headMiss + 1) s
    else
      let s := ({ s with switch := { s.switch with down := rest },
                         cycle := { s.cycle with headMiss := 0 } } : State).bump .serviceDiscarded
      match rest with
      | [] => s.forwarding .idle
      | e' :: rest' => if headNeed l e' ≤ s.remaining then sendHead e' rest' s else missHead 1 s

/-- The service window opens at the end of the cycle's last report wait (R145, R156). -/
def openWindow (l : Line) (s : State) : State := takeDeferred (openExamine l s)

/-- The next head examined at the end of a forwarded frame or of its reply wait (R145, R156). -/
def nextHead (l : Line) (s : State) : State := takeDeferred (examineHead l s)

/-! ## Waits (R149 to R160) -/

/-- A wait begins when the line is released (R149, R159). -/
def beginWait (s : State) : State :=
  { s with cycle := { s.cycle with wait := some { released := s.now, begun := false } } }

/-- A wait ends. -/
def endWait (s : State) : State := { s with cycle := { s.cycle with wait := none } }

/-- A node's ARM_SETPOINT handed to the transmitter (R147, R148). -/
def sendSetpoint (l : Line) (k : Station) (s : State) : State :=
  driveD (setpointFrame s l k) { s with cycle := { s.cycle with phase := .setpoint k } }

/-- The step after a node's report wait (R148). -/
def afterReport (l : Line) (k : Station) (s : State) : State :=
  let s := endWait s
  match k with
  | .one => if l.inUse .two then sendSetpoint l .two s else openWindow l s
  | .two => openWindow l s

/-- The step after a reply wait (R159). -/
def afterReply (l : Line) (s : State) : State := nextHead l (endWait s)

/-- The counter of a node's missing reports (R153). -/
def missingCounter : Station → Counter
  | .one => .reportsMissing1
  | .two => .reportsMissing2

/-- A node after a missing report (R153). -/
def Node.miss (n : Node) : Node :=
  { missing := riseTo 255 n.missing, silent := silentAfter n.silent (riseTo 255 n.missing) }

/-- A node's missing count and SILENT flag set. -/
def State.setNode (s : State) (k : Station) (n : Node) : State :=
  { s with cycle := { s.cycle with nodes := s.cycle.nodes.set k n } }

/-- A report missing (R153), and the cycle goes on. -/
def reportMissing (l : Line) (k : Station) (s : State) : State :=
  afterReport l k ((s.setNode k (s.cycle.nodes.get k).miss).bump (missingCounter k))

/-- A good report of the current cycle taken (R152): channels, positions, node. -/
def goodReport (l : Line) (k : Station) (p : List Byte) (s : State) : State :=
  let silent := (s.cycle.nodes.get k).silent
  let s := s.onChannels k (takeEntries l.record (s.arms.stations.get k) silent (reportEntries p))
  afterReport l k (s.setNode k { missing := 0, silent := false })

/-- Whether the contents of an ARM_REPORT are right (R151): 17 bytes, valid positions, the current cycle
number. -/
def reportContents (s : State) (p : List Byte) : Bool :=
  p.length == 17 && (reportEntries p).all (fun e => e.position.isSome) && rd16 p 0 == s.cycle.number

/-- The good frame that ends node k's report wait judged (R151). -/
def judgeReport (l : Line) (k : Station) (f : Frame) (s : State) : State :=
  if f.kind != 0x32#8 || f.src != nodeAddr l k || f.dest != s.switch.ownAddr
  then reportMissing l k (s.bump .unsolicited)
  else if reportContents s f.payload then goodReport l k f.payload s
  else reportMissing l k s

/-- A frame offered to the upstream forward queue (R11). -/
def offerUp (f : Frame) (s : State) : State :=
  if (s.switch.up.map storedSize).sum + storedSize f ≤ Config.forwardCapacity
  then { s with switch := { s.switch with up := s.switch.up ++ [f] } }
  else s.bump .forwardDropped

/-- The good frame that ends a reply wait (R159). -/
def judgeReply (l : Line) (addr : Byte) (f : Frame) (s : State) : State :=
  afterReply l (if f.src == addr then offerUp f s else s.bump .unsolicited)

/-- A good frame on Port D taken by the Cycle Master (R15, R155): during a wait it is the frame the wait
awaits; otherwise it is discarded and counted in UNSOLICITED. -/
def goodFrameD (f : Frame) (s : State) : State :=
  match s.mode.line, s.cycle.wait, s.cycle.phase with
  | some l, some _, .report k => judgeReport l k f s
  | some l, some _, .window (.replyWait addr) => judgeReply l addr f s
  | _, _, _ => s.bump .unsolicited

/-- A frame begun within a wait ends without a good result (R15, R151, R159). -/
def badFrameD (s : State) : State :=
  match s.mode.line, s.cycle.wait, s.cycle.phase with
  | some l, some _, .report k => reportMissing l k s
  | some l, some _, .window (.replyWait _) => afterReply l s
  | _, _, _ => s

/-- A START byte taken in HUNT on Port D cancels the timeout of a wait (R15, R149). -/
def startSeenD (s : State) : State :=
  match s.cycle.wait with
  | some w => { s with cycle := { s.cycle with wait := some { w with begun := true } } }
  | none => s

/-! ## The end of a frame on Port D -/

/-- What the Cycle Master does when the transmitter reports a frame's end (R147, R148, R158, R161). -/
def frameEnded (s : State) : State :=
  if s.cycle.cutPending then startCycle s
  else
    match s.mode.line, s.cycle.phase with
    | some l, .sync => sendSetpoint l .one s
    | some _, .setpoint k => beginWait { s with cycle := { s.cycle with phase := .report k } }
    | some l, .window (.sending awaited dest) =>
      if awaited then beginWait (s.forwarding (.replyWait dest)) else nextHead l s
    | _, _ => s

/-- The Port D transmitter ends its frame and releases the line (R1, R14). With another frame waiting for
that end, R14 leaves open whether the Cycle Master is told of the end first: the model sends the waiting
frame and tells the Cycle Master of the last one's end alone (DESIGN CHOICE, log 29). -/
def endFrameD (s : State) : State :=
  match s.portD.tx with
  | none => s
  | some x =>
    let s := s.reach x.endsAt
    let s := { s with portD := { s.portD with tx := none } }
    match s.portD.waiting with
    | [] => frameEnded s
    | f :: rest => driveD f { s with portD := { s.portD with waiting := rest } }

/-- The start due at a moment falls due (R145): taken at once with no exchange in progress, deferred
otherwise. Where that moment is not the next start due, the start has been superseded by a cut (R162) and
nothing happens (log 36). -/
def startDue (due : Nat) (s : State) : State :=
  if s.cycle.nextDue == some due then
    let s := s.reach due
    match s.cycle.phase with
    | .window .idle => startCycle s
    | .window .closed => startCycle s
    | .halted => s
    | _ => { s with cycle := { s.cycle with deferred := true } }
  else s

/-- The turnaround timeout runs out with no START (R149). -/
def reportTimeoutRuns (s : State) : State :=
  match s.mode.line, s.cycle.wait, s.cycle.phase with
  | some l, some w, .report k =>
    if w.begun then s else reportMissing l k (s.reach (w.released + l.record.reportTimeout))
  | _, _, _ => s

/-- The report limit is reached with the awaited frame in reception (R150). -/
def reportLimitReached (s : State) : State :=
  match s.mode.line, s.cycle.wait, s.cycle.phase with
  | some l, some w, .report k =>
    if w.begun
    then reportMissing l k (s.reach (w.released + l.record.reportTimeout + Config.reportLimitExtra))
    else s
  | _, _, _ => s

/-- A reply wait's timeout runs out with no START (R159). -/
def replyTimeoutRuns (s : State) : State :=
  match s.mode.line, s.cycle.wait, s.cycle.phase with
  | some l, some w, .window (.replyWait _) =>
    if w.begun then s else afterReply l (s.reach (w.released + l.record.reportTimeout))
  | _, _, _ => s

/-- The reply limit is reached with the frame in reception (R160). -/
def replyLimitReached (s : State) : State :=
  match s.mode.line, s.cycle.wait, s.cycle.phase with
  | some l, some w, .window (.replyWait _) =>
    if w.begun
    then afterReply l (s.reach (w.released + l.record.reportTimeout + Config.replyLimitExtra))
    else s
  | _, _, _ => s

/-! ## The downstream forward queue (R10) -/

/-- The occupancy of the downstream forward queue (R10). -/
def FrameSwitch.downOccupancy (w : FrameSwitch) : Nat := (w.down.map (fun e => storedSize e.frame)).sum

/-- A frame queued while forwarding is idle is examined at once as a head (R156). -/
def examineOffered (s : State) : State :=
  match s.mode.line, s.cycle.phase with
  | some l, .window .idle => examineHead l s
  | _, _ => s

/-- A frame offered to the downstream forward queue (R10). -/
def offerDown (f : Frame) (awaited : Bool) (s : State) : State :=
  if s.mode.mode != .unset && decide (s.switch.downOccupancy + storedSize f ≤ Config.forwardCapacity)
  then examineOffered
    { s with switch := { s.switch with down := s.switch.down ++ [{ frame := f, awaited := awaited }] } }
  else s.bump .forwardDropped

end Sys2Proof.Machine
end

