-- ==== Sys2Proof/Machine/Modes.lean ====
section
/-! DEFINITION. Mode Control (Chapter 2): the conditions on a line record, its acceptance, MODE_SET, the
trips, the ambient temperature and LINE_RESET. -/

namespace Sys2Proof.Machine

/-! ## The line record -/

/-- The converted counts of a line record (R25). -/
def lineCounts (r : LineRecord) : Counts :=
  let c := mmToCounts r.pitch
  { contact := { one := c r.contact1, two := c r.contact2 }
    offset := { one := c r.eyeOffset1, two := c r.eyeOffset2 }
    eye := { one := c r.contact1 - c r.eyeOffset1, two := c r.contact2 - c r.eyeOffset2 }
    tolerance := c r.tolerance, minGap := c r.minGap, maxLength := c r.maxLength }

/-- The condition of field 10 (R23): its range, its relation to fields 8 and 9, and the same in counts. -/
def toleranceOk (r : LineRecord) : Bool :=
  let c := lineCounts r
  inRange 20 500 r.tolerance && decide (r.tolerance < r.eyeOffset1) && decide (r.tolerance < r.eyeOffset2)
    && decide (c.tolerance < c.offset.one) && decide (c.tolerance < c.offset.two)
    && decide (c.eye.one + 2 * c.tolerance < c.eye.two)

/-- The conditions of R23 by field number, in rising order. Fields 27 and 28 have none. -/
def lineConditions (r : LineRecord) : List (Nat × Bool) :=
  [(1, inRange 1 239 r.address),
   (2, inRange 1 2 r.stations),
   (3, inRange 1 239 r.node1 && r.node1 != r.address),
   (4, inRange 1 239 r.node2 && r.node2 != r.address && r.node2 != r.node1),
   (5, inRange 100 2000 r.pitch),
   (6, inRange 1000 30000 r.contact1),
   (7, decide (r.contact1 + 500 < r.contact2) && decide (r.contact2 ≤ 30000)),
   (8, inRange 100 2000 r.eyeOffset1),
   (9, inRange 100 2000 r.eyeOffset2),
   (10, toleranceOk r),
   (11, decide (r.minGap ≤ 1000)),
   (12, inRange 2000 20000 r.maxLength),
   (13, inRange 40 1200 r.defaultDiameter),
   (14, inRange 1000 16000 r.ceiling),
   (15, inRange 50 4000 r.slew),
   (16, inRange 2 50 r.period),
   (17, inRange 50 500 r.reportTimeout),
   (18, inRange 20 500 r.speedWindow),
   (19, inRange 100 10000 r.dwellTime),
   (20, decide (r.dwellPercent ≤ 100)),
   (21, inRange 1 32 r.pulses),
   (22, inRange 50 1000 r.underSpeed),
   (23, decide (r.underSpeed < r.restartSpeed) && decide (r.restartSpeed ≤ 1200)),
   (24, inRange 50 3000 r.deviation),
   (25, inRange 1 15 r.deviationLimit),
   (26, decide (r.confidence ≤ 100))]

/-! ## Trips -/

/-- An entry to TRIPPED with its flush (R22). -/
def enterTripped (c : TripCause) (s : State) : State :=
  flush { s with mode := { s.mode with mode := .tripped, cause := c } }

/-- A trip (R20, R21, R22): from STANDBY, RUN and FINISHING, with the cut of the cycle; in UNSET and
TRIPPED nothing changes. -/
def trip (c : TripCause) (s : State) : State :=
  match s.mode.mode with
  | .unset => s
  | .tripped => s
  | _ => cutCycle (enterTripped c s)

/-! ## The blocked-eye check (R43) -/

/-- An eye changed. -/
def State.onEye (s : State) (k : Station) (f : Eye → Eye) : State :=
  { s with inputs := { s.inputs with eyes := s.inputs.eyes.set k (f (s.inputs.eyes.get k)) } }

/-- The blocked-eye check of an eye (R43), with its entry into FAULT handed to the Log Tracker (R65). -/
def checkEye (k : Station) (s : State) : State :=
  match s.mode.line with
  | none => s
  | some l =>
    if eyeBlocked l.counts s.travel.t (s.inputs.eyes.get k)
    then markFaulted k true (s.onEye k (fun e => { e with fault := true }))
    else s

/-- The blocked-eye check of both eyes (R43). -/
def checkEyes (s : State) : State := checkEye .two (checkEye .one s)

/-! ## LINE_LOAD -/

/-- The mode at the acceptance of a LINE_LOAD (R26): STANDBY, then TRIPPED on the trip input (R20) or on
a failed encoder (R21). -/
def acceptMode (s : State) : State :=
  let s := { s with mode := { s.mode with mode := .standby, cause := .none } }
  if s.inputs.trip then enterTripped .tripInput s
  else if s.travel.failed then enterTripped .encoder s
  else s

/-- The Travel Unit at the acceptance of a LINE_LOAD (R27, R34, R36): a new speed window, and the dwell
flag judged at once. -/
def TravelUnit.acceptLine (l : Line) (now : Nat) (u : TravelUnit) : TravelUnit :=
  { u with windowStart := now, net := 0, illegal := 0, dwell := judgeDwell l (now - u.stillSince) }

/-- The Log Tracker's faulted marks set from the eye states at the end of an acceptance (R65). -/
def syncFaulted (s : State) : State :=
  { s with tracker := { s.tracker with
      faulted := Pair.mk s.inputs.eyes.one.fault s.inputs.eyes.two.fault } }

/-- The channels, driver nodes and inputs at the acceptance of a LINE_LOAD (R27, R164). -/
def acceptInputs (l : Line) (s : State) : State :=
  let s := (s.onChannels .one (loadChannels l .one)).onChannels .two (loadChannels l .two)
  let s := { s with cycle := { s.cycle with nodes := Pair.mk Node.reset Node.reset }
                    travel := s.travel.acceptLine l s.now }
  syncFaulted (checkEyes s)

/-- A line record accepted (R25 to R27, R164). The own address changes with the reply's placing, and the
cycle starts, or is cut, at once (R26; log 10). -/
def acceptLine (r : LineRecord) (s : State) : State :=
  let l : Line := { record := r, counts := lineCounts r }
  let first := s.mode.mode == .unset
  let s := acceptMode { s with mode := { s.mode with line := some l } }
  let s := acceptInputs l s
  let s := { s with switch := { s.switch with ownAddr := BitVec.ofNat 8 r.address } }
  if first then startCycle s else cutCycle s

/-- LINE_LOAD (R24). -/
def loadLine (p : List Byte) (s : State) : Answer :=
  match s.mode.mode with
  | .run => refuse s .wrongMode
  | .finishing => refuse s .wrongMode
  | .tripped => refuse s .wrongMode
  | _ =>
    match firstFault (lineConditions (lineImage p)) with
    | some f => refuse s (.badValue f)
    | none => { state := acceptLine (lineImage p) s, outcome := .done, body := [] }

/-! ## MODE_SET -/

/-- The reply of MODE_SET (R17): the outcome, with the mode as it stands after the request. -/
def modeAnswer (s : State) (o : ReplyOutcome) : Answer :=
  { state := s, outcome := o, body := be8 s.mode.mode.code }

/-- The mode changed. -/
def State.setMode (s : State) (m : Mode) : State := { s with mode := { s.mode with mode := m } }

/-- The entry into RUN (R17, R118). -/
def enterRun (s : State) : State := stationAtRun .two (stationAtRun .one (s.setMode .run))

/-- MODE_SET RUN (R17). -/
def modeRun (s : State) : Answer :=
  match s.mode.mode with
  | .standby =>
    if s.tables.mark.isSome then modeAnswer (enterRun s) .done else modeAnswer s .noActiveBank
  | _ => modeAnswer s .wrongMode

/-- MODE_SET FINISH (R17, R19). -/
def modeFinish (s : State) : Answer :=
  match s.mode.mode with
  | .run => modeAnswer (endFinishing (s.setMode .finishing)) .done
  | _ => modeAnswer s .wrongMode

/-- MODE_SET STOP (R17, R22). -/
def modeStop (s : State) : Answer :=
  match s.mode.mode with
  | .run => modeAnswer (flush (s.setMode .standby)) .done
  | .finishing => modeAnswer (flush (s.setMode .standby)) .done
  | _ => modeAnswer s .wrongMode

/-- TRIPPED left by a CLEAR (R18, R33): the encoder OK, its mark and its count clear when it had
failed. -/
def leaveTripped (s : State) : State :=
  { s with
    mode := { s.mode with mode := .standby, cause := .none }
    travel := if s.travel.failed
      then { s.travel with failed := false, disturbed := false, illegal := 0 } else s.travel }

/-- MODE_SET CLEAR (R17, R18). -/
def modeClear (s : State) : Answer :=
  match s.mode.mode with
  | .tripped =>
    if s.inputs.trip then modeAnswer s .tripAsserted
    else if s.travel.failed && s.travel.disturbed then modeAnswer s .encoderFailed
    else modeAnswer (leaveTripped s) .done
  | _ => modeAnswer s .wrongMode

/-- MODE_SET by its argument (R17). -/
def modeSet (arg : Nat) (s : State) : Answer :=
  match arg with
  | 1 => modeRun s
  | 2 => modeFinish s
  | 3 => modeStop s
  | 4 => modeClear s
  | _ => modeAnswer s (.badValue 1)

/-! ## AMBIENT_SET -/

/-- AMBIENT_SET (R28). -/
def setAmbient (z : Int) (s : State) : Answer :=
  let v := clampInt (-500) 500 z
  { state := { s with mode := { s.mode with ambient := some v } }, outcome := .done, body := beS16 v }

/-! ## LINE_RESET -/

/-- The mode and the trip cause after LINE_RESET (R29). -/
def ModeControl.lineReset (asserted : Bool) (m : ModeControl) : ModeControl :=
  match m.mode with
  | .unset => { m with cause := .none }
  | _ => if asserted then { m with mode := .tripped, cause := .tripInput }
         else { m with mode := .standby, cause := .none }

/-- The Travel Unit after LINE_RESET (R37). -/
def TravelUnit.lineReset (now : Nat) (u : TravelUnit) : TravelUnit :=
  { TravelUnit.reset u.lineA u.lineB with windowStart := now, stillSince := now }

/-- A rotor after LINE_RESET (R41). -/
def Rotor.lineReset (r : Rotor) : Rotor := { r with speed := 0, under := true }

/-- An eye after LINE_RESET (R45). -/
def Eye.lineReset (e : Eye) : Eye :=
  { e with fault := false, darkSince := if e.dark then some 0#24 else none }

/-- A pair with one function applied to both of its values. -/
def Pair.map {α β : Type} (f : α → β) (p : Pair α) : Pair β := { one := f p.one, two := f p.two }

/-- The inputs after LINE_RESET; the trip input level stays (R41, R45, R46). -/
def FieldInputs.lineReset (i : FieldInputs) : FieldInputs :=
  { i with rotors := i.rotors.map Rotor.lineReset, eyes := i.eyes.map Eye.lineReset }

/-- The Log Tracker after LINE_RESET (R65, R73). -/
def LogTracker.lineReset (t : LogTracker) : LogTracker :=
  { t with queue := [], faulted := { one := false, two := false } }

/-- The Arm Controller after LINE_RESET (R142). -/
def ArmController.lineReset (line : Option Line) (a : ArmController) : ArmController :=
  { stations := { one := .idle, two := .idle }
    channels :=
      { one := resetChannels line .one a.channels.one
        two := resetChannels line .two a.channels.two } }

/-- The Cycle Master's values at LINE_RESET, before the cut (R163). -/
def CycleMaster.lineReset (c : CycleMaster) : CycleMaster :=
  { c with number := 0, nodes := { one := Node.reset, two := Node.reset }, headMiss := 0 }

/-- Every block but Request Service at LINE_RESET, before the cut (R176). -/
def resetBlocks (s : State) : State :=
  { s with
    mode := s.mode.lineReset s.inputs.trip
    travel := s.travel.lineReset s.now
    inputs := s.inputs.lineReset
    tracker := s.tracker.lineReset
    tables := s.tables.lineReset
    arms := s.arms.lineReset s.mode.line
    cycle := s.cycle.lineReset }

/-- Request Service at LINE_RESET, before its reply (R176). -/
def RequestService.lineReset : RequestService :=
  { counters := Counters.zero, replies := [], inFlight := none }

/-- LINE_RESET (R176). The cycle is cut with a line record present (R29); Request Service comes last, in
the order of R176's table, so its counters are 0 after it (DESIGN CHOICE, log 9). -/
def lineReset (s : State) : Answer :=
  let s := resetBlocks s
  let s := if s.mode.line.isSome then cutCycle s else s
  modeAnswer { s with requests := RequestService.lineReset } .done

end Sys2Proof.Machine
end

