-- ==== Sys2Proof/Machine/Inputs.lean ====
section
/-! DEFINITION. The Travel Unit and the Rotor and Eye Inputs (Chapter 3): the quadrature decoder, the
speed windows, the dwell flag, the rotors, the eyes and the trip input. -/

namespace Sys2Proof.Machine

/-! ## The travel count -/

/-- What a change of the pair (A, B) is to the decoder (R30). -/
inductive Transition where
  | same
  | forward
  | reverse
  | illegal
deriving DecidableEq, Repr

/-- The decoder's table (R30): reference state (a, b), new state (x, y). -/
def transition (a b x y : Bool) : Transition :=
  match a, b, x, y with
  | false, false, true, false => .forward
  | true, false, true, true => .forward
  | true, true, false, true => .forward
  | false, true, false, false => .forward
  | false, false, false, true => .reverse
  | false, true, true, true => .reverse
  | true, true, true, false => .reverse
  | true, false, false, false => .reverse
  | false, false, true, true => .illegal
  | true, true, false, false => .illegal
  | true, false, false, true => .illegal
  | false, true, true, false => .illegal
  | false, false, false, false => .same
  | false, true, false, true => .same
  | true, false, true, false => .same
  | true, true, true, true => .same

/-- The Travel Unit after a change of T (R30, R35, R36): forward adds one, reverse subtracts one. -/
def TravelUnit.moved (forward : Bool) (now : Nat) (u : TravelUnit) : TravelUnit :=
  { u with
    t := if forward then u.t + 1#24 else u.t - 1#24
    net := if forward then u.net + 1 else u.net - 1
    stillSince := now, dwell := false }

/-- A legal transition (R30): while the encoder is failed T stays (R33); else the change of T is handed
to the Log Tracker and to the blocked-eye check (log 12). -/
def legalTransition (forward : Bool) (s : State) : State :=
  if s.travel.failed then s
  else checkEyes (travelChanged { s with travel := s.travel.moved forward s.now })

/-- The Travel Unit after an illegal transition (R32, R33). -/
def TravelUnit.disturb (u : TravelUnit) : TravelUnit :=
  let n := riseTo 255 u.illegal
  if u.failed then { u with illegal := n, disturbed := true }
  else if Config.illegalLimit ≤ n then { u with illegal := n, failed := true, disturbed := false }
  else { u with illegal := n }

/-- An illegal transition, with the trip of a failure (R21, R32). -/
def illegalTransition (s : State) : State :=
  let s' := { s with travel := s.travel.disturb }
  if s'.travel.failed && !s.travel.failed then trip .encoder s' else s'

/-- A level change of the encoder lines (R30). The new pair becomes the reference state. -/
def encoderChange (a b : Bool) (s : State) : State :=
  let kind := transition s.travel.lineA s.travel.lineB a b
  let s := { s with travel := { s.travel with lineA := a, lineB := b } }
  match kind with
  | .same => s
  | .forward => legalTransition true s
  | .reverse => legalTransition false s
  | .illegal => illegalTransition s

/-! ## Feed speed and standstill -/

/-- The length of a speed window in µs (R34). -/
def windowLength : Option Line → Nat
  | some l => l.record.speedWindow * 1000
  | none => Config.defaultWindow

/-- The feed speed of a window (R35): net count, pitch in µm, window in ms. -/
def feedSpeed (net : Int) (pitch window : Nat) : Nat := min (net.toNat * pitch / window) 4000

/-- The Travel Unit at the end of a speed window, at a moment (R34, R35). -/
def TravelUnit.endWindow (line : Option Line) (at_ : Nat) (u : TravelUnit) : TravelUnit :=
  { u with
    feed := match line with
      | some l => feedSpeed u.net l.record.pitch l.record.speedWindow
      | none => u.feed
    windowStart := at_, net := 0, illegal := 0 }

/-- The speed window in progress ends and the next starts (R34). -/
def endSpeedWindow (s : State) : State :=
  let due := s.travel.windowStart + windowLength s.mode.line
  let s := s.reach due
  { s with travel := s.travel.endWindow s.mode.line due }

/-- The still time reaches the dwell time (R36); with no line record the flag stays clear. -/
def setDwell (s : State) : State :=
  match s.mode.line with
  | none => s
  | some l =>
    let s := s.reach (s.travel.stillSince + l.record.dwellTime * 1000)
    { s with travel := { s.travel with dwell := true } }

/-! ## Rotors -/

/-- The setting of a rotor's under-speed flag (R126), with the release of the station's log (R125). -/
def underSet (k : Station) (s : State) : State :=
  if s.follows k then
    match s.arms.stations.get k, s.mode.line with
    | .engaged id, some l => releasePending l id (s.setStation k .lockout)
    | _, _ => s.setStation k .lockout
  else s

/-- A change of a rotor's under-speed flag handed to the Arm Controller (R40, R126, R127; log 21). -/
def underChanged (k : Station) (was : Bool) (s : State) : State :=
  let now := (s.inputs.rotors.get k).under
  if now && !was then underSet k s
  else if was && !now then examineLockout k s
  else s

/-- A rotor replaced, with the change of its under-speed flag handed over. -/
def setRotor (k : Station) (r : Rotor) (s : State) : State :=
  underChanged k (s.inputs.rotors.get k).under
    { s with inputs := { s.inputs with rotors := s.inputs.rotors.set k r } }

/-- The speed of a period (R39): the largest whole number n with n · t · q at most 60,000,000. -/
def rotorSpeed (line : Option Line) (period : Nat) : Nat :=
  match line with
  | some l => 60000000 / (period * l.record.pulses)
  | none => 0

/-- A rotor at a pulse that forms a period (R38 to R40). -/
def Rotor.pulsed (line : Option Line) (t edge : Nat) (r : Rotor) : Rotor :=
  let n := rotorSpeed line (edge - t)
  { ref := some edge, period := edge - t, speed := n, under := judgeUnder line n r.under }

/-- A rotor at its 2000 ms timeout (R39, R40). -/
def Rotor.silenced (line : Option Line) (r : Rotor) : Rotor :=
  { ref := none, period := 0, speed := 0, under := judgeUnder line 0 r.under }

/-- The 2000 ms timeout of a rotor, when it has a reference (R39). -/
def silenceRotor (k : Station) (s : State) : State :=
  match (s.inputs.rotors.get k).ref with
  | none => s
  | some t => setRotor k ((s.inputs.rotors.get k).silenced s.mode.line) (s.reach (t + Config.rotorSilence))

/-- A pulse that only sets the reference (R38). -/
def referencePulse (k : Station) (edge : Nat) (s : State) : State :=
  let r := s.inputs.rotors.get k
  { s with inputs := { s.inputs with rotors := s.inputs.rotors.set k { r with ref := some edge } } }

/-- A rotor pulse by the time of its rising edge (R38, R39), taken when the line has been high for 50 µs.
An edge that is not after the reference is no pulse; one more than 2000 ms after it finds the timeout
past (log 18). -/
def pulseRotor (k : Station) (edge : Nat) (s : State) : State :=
  match (s.inputs.rotors.get k).ref with
  | none => (referencePulse k edge s).reach (edge + Config.pulseHold)
  | some t =>
    if edge ≤ t then s
    else if Config.rotorSilence < edge - t then
      (referencePulse k edge (silenceRotor k s)).reach (edge + Config.pulseHold)
    else
      setRotor k ((s.inputs.rotors.get k).pulsed s.mode.line t edge) (s.reach (edge + Config.pulseHold))

/-! ## Eyes and the trip input -/

/-- A rising edge of an eye (R42). -/
def eyeRises (k : Station) (s : State) : State :=
  let s' := s.onEye k (fun e => { e with dark := true, darkSince := some s.travel.t })
  if (s.inputs.eyes.get k).fault then s' else risingEdge k s'

/-- A falling edge of an eye (R42), or the clearing of its fault (R44, R65). -/
def eyeFalls (k : Station) (s : State) : State :=
  let s' := s.onEye k (fun e => { e with dark := false, fault := false, darkSince := none })
  if (s.inputs.eyes.get k).fault then markFaulted k false s' else fallingEdge k s'

/-- An eye's line has held a level for 2 ms (R42); the level it already had changes nothing. -/
def eyeChange (k : Station) (dark : Bool) (s : State) : State :=
  if (s.inputs.eyes.get k).dark == dark then s
  else if dark then eyeRises k s else eyeFalls k s

/-- The trip line has held a level for 2 ms (R46, R20); the level it already had changes nothing. -/
def tripLevel (asserted : Bool) (s : State) : State :=
  if s.inputs.trip == asserted then s
  else
    let s := { s with inputs := { s.inputs with trip := asserted } }
    if asserted then trip .tripInput s else s

end Sys2Proof.Machine
end

