-- ==== Sys2Proof/Machine/Requests.lean ====
section
/-! DEFINITION. Request Service (Chapter 9): the taking of a request, the reports of state, ARM_RESTORE and
the counters. -/

namespace Sys2Proof.Machine

/-! ## Taking a request -/

/-- A request that finds no reply slot (R170). -/
def State.full (s : State) : Bool := decide (Config.replySlots ≤ s.slotsTaken)

/-- A request's reply composed within its taking and placed (R165, R166, R168). Its source is the own
address as it stands when the request is taken: no request changes it but an accepted LINE_LOAD, whose
reply carries that one too (R166). -/
def reply (src num code : Byte) (s : State) (a : Answer) : State :=
  a.state.placeReply (s.replyFrame src num code a.outcome a.body)

/-- A request taken (R165): discarded and counted when no slot is free, otherwise executed and answered. -/
def served (src num code : Byte) (act : State → Answer) (s : State) : State :=
  if s.full then s.bump .replyOverflow else reply src num code s (act s)

/-! ## STATUS_READ (R172, section 10.8) -/

/-- The two speed bytes of a rotor (section 10.8). A speed above 65535 has no stated value there: it is
free (log 16). -/
def speedBytes (n : Nat) : List Byte :=
  if n ≤ 65535 then be16 n else be16 (Config.wideSpeed n).toNat

/-- The state byte of a station and the tag of its current log (section 10.8). The tag byte of a synthetic
current log is 0, as in LOG_LIST (DESIGN CHOICE, log 34). -/
def stationBytes (s : State) (k : Station) : List Byte :=
  match s.arms.stations.get k with
  | .engaged id =>
    match s.record? id with
    | some r => be8 (1 + bitAt 7 (r.origin == .synthetic)) ++ [r.tag.getD 0#8]
    | none => be8 1 ++ be8 0
  | x => be8 x.code ++ be8 0

/-- The three bytes of a channel (section 10.8). -/
def channelBytes (c : Channel) : List Byte :=
  be8 (c.state.code + bitAt 2 c.pendingRestore + bitAt 3 c.clamp + 16 * armPosCode c.position)
    ++ be16 c.lastSent

/-- The two bytes of a driver node (section 10.8). A flag byte that is set is sent as 1 (DESIGN CHOICE,
log 33). -/
def nodeBytes (n : Node) : List Byte := be8 (bitAt 0 n.silent) ++ be8 n.missing

/-- The five bytes of a rotor (section 10.8). -/
def rotorBytes (r : Rotor) : List Byte := speedBytes r.speed ++ be24 r.period

/-- The flags of offset 2 (section 10.8). -/
def statusFlags (s : State) : Nat :=
  bitAt 0 s.inputs.trip + bitAt 1 s.travel.failed + bitAt 2 s.mode.line.isSome
    + bitAt 3 s.mode.ambient.isSome + bitAt 4 s.travel.dwell

/-- The flags of offset 48 (section 10.8). -/
def inputFlags (i : FieldInputs) : Nat :=
  bitAt 0 i.eyes.one.dark + bitAt 1 i.eyes.one.fault + bitAt 2 i.eyes.two.dark + bitAt 3 i.eyes.two.fault
    + bitAt 4 i.rotors.one.under + bitAt 5 i.rotors.two.under

/-- The 64-byte STATUS body (R172, section 10.8). The bits of its bytes that section 10.8 does not name
are sent as 0 (DESIGN CHOICE, log 35). -/
def statusBody (s : State) : List Byte :=
  be8 s.mode.mode.code ++ be8 s.mode.cause.code ++ be8 (statusFlags s) ++ beS16 (s.mode.ambient.getD 0)
    ++ be8 s.tables.a.state.code ++ be8 s.tables.a.refs
    ++ be8 s.tables.b.state.code ++ be8 s.tables.b.refs
    ++ be8 (match s.tables.mark with | some k => k.code | none => 0)
    ++ stationBytes s .one ++ stationBytes s .two
    ++ s.arms.channels.one.flatMap channelBytes ++ s.arms.channels.two.flatMap channelBytes
    ++ nodeBytes s.cycle.nodes.one ++ nodeBytes s.cycle.nodes.two
    ++ be8 (inputFlags s.inputs) ++ rotorBytes s.inputs.rotors.one ++ rotorBytes s.inputs.rotors.two
    ++ be16 s.travel.feed ++ be8 s.tracker.queue.length ++ be16 s.cycle.number

/-- STATUS_READ (R172). -/
def readStatus (s : State) : Answer := { state := s, outcome := .done, body := statusBody s }

/-! ## LOG_LIST (R173, section 10.7) -/

/-- The four bits of a record's standing at a station (section 10.7). -/
def standingBits (x : Standing) : Nat := x.confirmed.code + bitAt 2 x.lostPending + bitAt 3 x.passedUnseen

/-- The seven bytes of a record's summary (section 10.7). -/
def summary (r : LogRecord) : List Byte :=
  [r.tag.getD 0#8, r.scanned] ++ be8 r.confidence
    ++ be8 (r.species % 32 + bitAt 5 (r.bank == .b) + bitAt 6 (r.origin == .synthetic) + bitAt 7 r.joined)
    ++ be8 (standingBits r.at1 + 16 * standingBits r.at2)
    ++ be16 (match r.length with | some l => l.mm.toNat | none => 0)

/-- LOG_LIST (R173). -/
def listLogs (s : State) : Answer :=
  { state := s, outcome := .done
    body := be8 s.tracker.queue.length ++ s.tracker.queue.flatMap summary }

/-! ## COUNTERS_READ (R175) -/

/-- The counters' 40 bytes (R175). -/
def counterBytes (k : Counters) : List Byte := k.toList.flatMap be16

/-- COUNTERS_READ with option 0 (R175). -/
def readCounters (s : State) : Answer :=
  { state := s, outcome := .done, body := counterBytes s.requests.counters }

/-- COUNTERS_READ with option 1 (R175). -/
def readClearCounters (s : State) : Answer :=
  { state := { s with requests := { s.requests with counters := Counters.zero } }, outcome := .done
    body := counterBytes s.requests.counters }

/-- COUNTERS_READ by its option (R175). -/
def countersByOption (opt : Nat) (s : State) : Answer :=
  match opt with
  | 0 => readCounters s
  | 1 => readClearCounters s
  | _ => refuse s (.badValue 1)

/-! ## ARM_RESTORE (R139) -/

/-- The reply body of ARM_RESTORE: the channel, and its state and pending flag after the request. The flag
byte is sent as 1 when set (DESIGN CHOICE, log 33). -/
def restoreBody (channel : Byte) (c : Channel) : List Byte :=
  [channel] ++ be8 c.state.code ++ be8 (bitAt 0 c.pendingRestore)

/-- The state with channel n replaced by c, answered by ARM_RESTORE. -/
def restoreAnswer (channel : Byte) (s : State) (c : Channel) (o : ReplyOutcome) : Answer :=
  { state := s.onChannel channel.toNat (fun _ => c), outcome := o, body := restoreBody channel c }

/-- ARM_RESTORE of an ISOLATED channel (R139). -/
def restoreIsolated (channel : Byte) (s : State) (c : Channel) : Answer :=
  if s.restoresAtOnce channel.toNat then restoreAnswer channel s c.restore .done
  else restoreAnswer channel s { c with pendingRestore := true } .done

/-- ARM_RESTORE of a channel that there is (R139). -/
def restoreChannel (channel : Byte) (s : State) (c : Channel) : Answer :=
  if s.mode.mode == .unset then restoreAnswer channel s c .wrongMode
  else
    match c.state with
    | .disabled => restoreAnswer channel s c .channelDisabled
    | .ready => restoreAnswer channel s c .done
    | .isolated => restoreIsolated channel s c

/-- ARM_RESTORE (R139). -/
def armRestore (channel : Byte) (s : State) : Answer :=
  match (if channel.toNat = 0 then none else s.channel? channel.toNat) with
  | none => { state := s, outcome := .badValue 1, body := [channel, 255#8, 255#8] }
  | some c => restoreChannel channel s c

/-! ## TABLE_OPEN (R80, R169) -/

/-- TABLE_OPEN copy (R80, R82, R169): refused, it is answered like any request; accepted, its slot is
reserved and the request recorded in flight. -/
def servedCopy (src num : Byte) (s : State) : State :=
  if s.full then s.bump .replyOverflow
  else
    match openCopy s with
    | (s', some o) => reply src num 4#8 s (refuse s' o)
    | (s', none) => { s' with requests := { s'.requests with inFlight := some { num := num, dest := src } } }

/-- TABLE_OPEN by its argument (R80). -/
def servedOpen (src num : Byte) (arg : Nat) (s : State) : State :=
  match arg with
  | 1 => served src num 4#8 openClear s
  | 2 => servedCopy src num s
  | _ => served src num 4#8 (fun s => refuse s (.badValue 1)) s

/-! ## The taking by code (R165) -/

/-- A request of the right form executed by the block of section 9.1. -/
def execute (src num code : Byte) (body : List Byte) (s : State) : State :=
  match code.toNat with
  | 1 => served src num code (loadLine body) s
  | 2 => served src num code (modeSet (rd8 body 0)) s
  | 3 => served src num code (setAmbient (rdS16 body 0)) s
  | 4 => servedOpen src num (rd8 body 0) s
  | 5 => served src num code (writeEntry body) s
  | 6 => served src num code (writeTrims body) s
  | 7 => served src num code closeBank s
  | 8 => served src num code swapBanks s
  | 9 => served src num code (readTable (body.getD 0 0#8) (body.getD 1 0#8)) s
  | 10 => served src num code (armRestore (body.getD 0 0#8)) s
  | 11 => served src num code readStatus s
  | 12 => served src num code listLogs s
  | 13 => served src num code (countersByOption (rd8 body 0)) s
  | 14 => served src num code lineReset s
  | _ => served src num code (fun s => refuse s .unknownRequest) s

/-- A request refused BAD_FORM by Request Service itself (R165). -/
def servedBadForm (src num code : Byte) (s : State) : State :=
  served src num code (fun s => refuse s .badForm) s

/-- A request whose payload has its two first bytes, by the lines of R165. -/
def takeCode (src num code : Byte) (body : List Byte) (s : State) : State :=
  match bodyLength? code.toNat with
  | none => served src num code (fun s => refuse s .unknownRequest) s
  | some n => if body.length == n then execute src num code body s else servedBadForm src num code s

/-- A REQUEST payload taken (R165). -/
def takeRequest (src : Byte) (payload : List Byte) (s : State) : State :=
  match payload with
  | [] => servedBadForm src 0#8 0#8 s
  | [num] => servedBadForm src num 0#8 s
  | num :: code :: body => takeCode src num code body s

end Sys2Proof.Machine
end

