-- ==== Sys2Proof/Machine/Routing.lean ====
section
/-! DEFINITION. The Frame Switch (Chapter 1): the routing of good frames from Port U (R9), the upstream
transmit arbiter (R13), and the bytes and gaps of both receivers (R3, R4, R15). -/

namespace Sys2Proof.Machine

/-! ## Routing on Port U (R8, R9) -/

/-- An invalid destination (R8). -/
def invalidDest (d : Byte) : Bool := d == 0#8 || (decide (240 ≤ d.toNat) && decide (d.toNat ≤ 253))

/-- A kind after which a reply is expected, sent to one station (R9). -/
def repliedKind (k : Byte) : Bool := k == 0x20#8 || (decide (0x40 ≤ k.toNat) && decide (k.toNat ≤ 0x5F))

/-- The copy of a log frame offered downstream (R9). -/
def offerCopy (f : Frame) (s : State) : State :=
  match s.mode.line with
  | some l => if l.record.forwardLogs then offerDown f false s else s
  | none => s

/-- A log frame handed to the Log Tracker, and its copy offered downstream (R9). -/
def routeLog (f : Frame) (s : State) : State :=
  offerCopy f (if f.kind == 0x10#8 then takeScan f.payload s else takeVoid f.payload s)

/-- A REQUEST, REPLY, query or notice routed by its destination (R9). -/
def routeByDest (f : Frame) (s : State) : State :=
  if f.dest == s.switch.ownAddr then
    if f.kind == 0x20#8 then takeRequest f.src f.payload s else s.bump .forbiddenKind
  else if f.dest == Config.broadcast then
    if f.kind == 0x20#8 then s.bump .forbiddenKind else offerDown f false s
  else offerDown f (repliedKind f.kind) s

/-- A good frame received on Port U routed by the first matching line of R9's table. -/
def routeU (f : Frame) (s : State) : State :=
  if invalidDest f.dest then s.bump .forbiddenKind
  else if f.kind == 0x10#8 || f.kind == 0x11#8 then routeLog f s
  else if forwardKind f.kind then routeByDest f s
  else s.bump .forbiddenKind

/-! ## The upstream transmit arbiter (R13) -/

/-- The source the arbiter serves, if one has a frame waiting (R13). -/
def chooseSource (mark : Source) (replies up : List Frame) : Option Source :=
  match replies, up with
  | [], [] => none
  | _ :: _, [] => some .replyQueue
  | [], _ :: _ => some .forwardQueue
  | _ :: _, _ :: _ => some (match mark with | .replyQueue => .forwardQueue | .forwardQueue => .replyQueue)

/-- A frame handed to the Port U transmitter, or an IDLE byte, from a moment on (R1, R13). -/
def driveU (from_ : Nat) (f : Option Frame) (s : State) : State :=
  match f with
  | none => { s with portU := { s.portU with tx := none, byteEnds := from_ + Config.byteTime } }
  | some f =>
    let sending : Sending := { frame := f, bytes := wire f, endsAt := from_ + wireTime f }
    { s with portU := { s.portU with tx := some sending, byteEnds := from_ + wireTime f } }

/-- The frame of a source taken from its queue, with the mark set to it (R12, R13, R168). -/
def takeFrom (k : Source) (s : State) : State :=
  match k with
  | .replyQueue =>
    { s with requests := { s.requests with replies := s.requests.replies.tail }
             switch := { s.switch with mark := .replyQueue } }
  | .forwardQueue => { s with switch := { s.switch with up := s.switch.up.tail, mark := .forwardQueue } }

/-- The next frame of a source (R13, R168). -/
def nextOf (k : Source) (s : State) : Option Frame :=
  match k with
  | .replyQueue => s.requests.replies.head?
  | .forwardQueue => s.switch.up.head?

/-- The arbiter's decision at the end of the IDLE byte or the frame on the Port U wire (R13). -/
def arbitrate (s : State) : State :=
  let due := s.portU.byteEnds
  let s := s.reach due
  match chooseSource s.switch.mark s.requests.replies s.switch.up with
  | none => driveU due none s
  | some k => driveU due (nextOf k s) (takeFrom k s)

/-! ## Bytes and gaps (R3, R4, R15) -/

/-- A counter of the receiver raised by its report (R4, R6, R7). -/
def countReport (ok : Counter) (r : RxReport) (s : State) : State := s.bump? (r.counter? ok)

/-- A byte taken by the Port U receiver (R3); a good frame is routed within the step (log 1). -/
def byteU (b : Byte) (s : State) : State :=
  let x := s.portU.rx.take s.now b
  let s := countReport .uFramesOk x.2 { s with portU := { s.portU with rx := x.1 } }
  match x.2 with
  | .good f => routeU f s
  | _ => s

/-- What the Port D receiver reports to the Cycle Master (R15). -/
def reportD (r : RxReport) (s : State) : State :=
  match r with
  | .quiet => s
  | .begun => startSeenD s
  | .aborted => badFrameD s
  | .headerGood _ => s
  | .headerFailed => badFrameD s
  | .crcFailed => badFrameD s
  | .good f => goodFrameD f s

/-- The end of a reception together with a cut that was taken first (R162): the frame counts by how it ended,
and a good one is awaited by no one and UNSOLICITED. Were it not to end with this byte, the CYCLE_SYNC of the
cut would have aborted it (R3), and it counts so. -/
def endAtCut (r : RxReport) (s : State) : State :=
  match r with
  | .good _ => (s.bump .dFramesOk).bump .unsolicited
  | .headerFailed => s.bump .hecFailed
  | .crcFailed => s.bump .crcFailed
  | .quiet => s.bump .framesAborted
  | .begun => s.bump .framesAborted
  | .aborted => s.bump .framesAborted
  | .headerGood _ => s.bump .framesAborted

/-- A byte on Port D while the transmitter drives the line (R3): not taken, but for the last byte of a frame
that ends together with a cut taken first (R162, log 32). -/
def byteAtCut (b : Byte) (s : State) : State :=
  match s.portD.cut with
  | none => s
  | some c =>
    if c.moment == s.now
    then endAtCut (c.rx.take s.now b).2 { s with portD := { s.portD with cut := none } }
    else s

/-- A byte on Port D (R3). -/
def byteD (b : Byte) (s : State) : State :=
  match s.portD.tx with
  | some _ => byteAtCut b s
  | none =>
    let x := s.portD.rx.take s.now b
    reportD x.2 (countReport .dFramesOk x.2 { s with portD := { s.portD with rx := x.1 } })

/-- The byte gap runs out on Port U (R4). -/
def gapU (s : State) : State :=
  if s.portU.rx.receiving then
    let s := s.reach (s.portU.rx.gapFrom + Config.gapLimit)
    ({ s with portU := { s.portU with rx := s.portU.rx.hunt } } : State).bump .framesAborted
  else s

/-- The byte gap runs out on Port D (R4, R15). -/
def gapD (s : State) : State :=
  if s.portD.rx.receiving then
    let s := s.reach (s.portD.rx.gapFrom + Config.gapLimit)
    badFrameD (({ s with portD := { s.portD with rx := s.portD.rx.hunt } } : State).bump .framesAborted)
  else s

/-- A good frame on Port D as a whole (log 1): the receiver has left it in HUNT. It is taken so while the
transmitter drives the line as well, where no wait runs and it is UNSOLICITED (DESIGN CHOICE, log 30). -/
def wholeFrameD (f : Frame) (s : State) : State :=
  goodFrameD f { s with portD := { s.portD with rx := s.portD.rx.hunt } }

end Sys2Proof.Machine
end

