-- ==== Sys2Proof/Machine/CycleCommands.lean ====
section
/-! DEFINITION. The meanings of the rows of the copy engine (Chapter 5) and of the arm cycle (Chapter 8). -/

namespace Sys2Proof.Machine

/-- COPY_ITEM (R83, R84). -/
def execCopyItem (s : State) : Host.Outcome State Fault Refusal := .next (moveNextItem s)

/-- CYCLE_START (R145, R146): the start due at a moment falls due. -/
def execCycleStart (s : State) (due : Nat := 0) : Host.Outcome State Fault Refusal := .next (startDue due s)

/-- REPORT_TIMEOUT (R149). -/
def execReportTimeout (s : State) : Host.Outcome State Fault Refusal := .next (reportTimeoutRuns s)

/-- REPORT_LIMIT (R150). -/
def execReportLimit (s : State) : Host.Outcome State Fault Refusal := .next (reportLimitReached s)

/-- ARM_REPORT (R151, R152). -/
def execArmReport (dest src : Byte) (payload : List Byte) (s : State) : Host.Outcome State Fault Refusal :=
  .next (wholeFrameD { dest := dest, src := src, kind := 0x32#8, payload := payload } s)

/-- REPLY_FROM_STATION (R159). -/
def execReplyFromStation (f : Frame) (s : State) : Host.Outcome State Fault Refusal := .next (wholeFrameD f s)

/-- REPLY_TIMEOUT (R159). -/
def execReplyTimeout (s : State) : Host.Outcome State Fault Refusal := .next (replyTimeoutRuns s)

/-- REPLY_LIMIT (R160). -/
def execReplyLimit (s : State) : Host.Outcome State Fault Refusal := .next (replyLimitReached s)

/-- UNSOLICITED (R155). -/
def execUnsolicited (f : Frame) (s : State) : Host.Outcome State Fault Refusal := .next (wholeFrameD f s)

end Sys2Proof.Machine
end

