-- ==== Sys2Proof/Machine/FieldCommands.lean ====
section
/-! DEFINITION. The meanings of the rows of the field lines (Chapter 3). -/

namespace Sys2Proof.Machine

/-- ENCODER_TRANSITION (R30). -/
def execEncoderTransition (a b : Bool) (s : State) : Host.Outcome State Fault Refusal :=
  .next (encoderChange a b s)

/-- SPEED_WINDOW_END (R34, R35). -/
def execSpeedWindowEnd (s : State) : Host.Outcome State Fault Refusal := .next (endSpeedWindow s)

/-- DWELL_SET (R36). -/
def execDwellSet (s : State) : Host.Outcome State Fault Refusal := .next (setDwell s)

/-- ROTOR_PULSE (R38 to R40). -/
def execRotorPulse (r : Station) (edge : Nat) (s : State) : Host.Outcome State Fault Refusal :=
  .next (pulseRotor r edge s)

/-- ROTOR_TIMEOUT (R39, R40). -/
def execRotorTimeout (r : Station) (s : State) : Host.Outcome State Fault Refusal := .next (silenceRotor r s)

/-- EYE_EDGE (R42, R44). -/
def execEyeEdge (e : Station) (dark : Bool) (s : State) : Host.Outcome State Fault Refusal :=
  .next (eyeChange e dark s)

/-- TRIP_INPUT_CHANGE (R46, R20). -/
def execTripInputChange (asserted : Bool) (s : State) : Host.Outcome State Fault Refusal :=
  .next (tripLevel asserted s)

end Sys2Proof.Machine
end

