-- ==== Sys2Proof/Machine/LinkCommands.lean ====
section
/-! DEFINITION. The meanings of the rows of the reset, the line link and the Frame Switch (Chapter 1). -/

namespace Sys2Proof.Machine

/-- HARDWARE_RESET (R16, R37, R46): every block in its starting state, with the levels of A, B and the
trip line as they stand at its end. The queue of commands is not the part's and stays. -/
def execHardwareReset (a b trip : Bool) (s : State) : Host.Outcome State Fault Refusal :=
  .next
    { State.reset with
      travel := TravelUnit.reset a b
      inputs := { State.reset.inputs with trip := trip }
      pending := s.pending }

/-- RECEIVE_BYTE (R3). -/
def execReceiveByte (port : Port) (byte : Byte) (s : State) : Host.Outcome State Fault Refusal :=
  .next (match port with
    | .u => byteU byte s
    | .d => byteD byte s)

/-- BYTE_GAP_TIMEOUT (R4). -/
def execByteGapTimeout (port : Port) (s : State) : Host.Outcome State Fault Refusal :=
  .next (match port with
    | .u => gapU s
    | .d => gapD s)

/-- FORBIDDEN_KIND (R9). -/
def execForbiddenKind (f : Frame) (s : State) : Host.Outcome State Fault Refusal := .next (routeU f s)

/-- FORWARD_DOWNSTREAM (R9, R10). -/
def execForwardDownstream (f : Frame) (s : State) : Host.Outcome State Fault Refusal := .next (routeU f s)

/-- LOG_SCAN (R9, R50 to R54). -/
def execLogScan (dest src : Byte) (payload : List Byte) (s : State) : Host.Outcome State Fault Refusal :=
  .next (routeU { dest := dest, src := src, kind := 0x10#8, payload := payload } s)

/-- LOG_VOID (R9, R55). -/
def execLogVoid (dest src : Byte) (payload : List Byte) (s : State) : Host.Outcome State Fault Refusal :=
  .next (routeU { dest := dest, src := src, kind := 0x11#8, payload := payload } s)

/-- UPSTREAM_ARBITRATION (R13). -/
def execUpstreamArbitration (s : State) : Host.Outcome State Fault Refusal := .next (arbitrate s)

/-- PORT_D_FRAME_END (R14). -/
def execPortDFrameEnd (s : State) : Host.Outcome State Fault Refusal := .next (endFrameD s)

end Sys2Proof.Machine
end

