-- ==== Sys2Proof/Machine/RequestCommands.lean ====
section
/-! DEFINITION. The meanings of the request rows (Chapters 2, 5, 7 and 9): each is the taking of one
REQUEST addressed to the controller (R165). -/

namespace Sys2Proof.Machine

/-- REQUEST_OVERFLOW (R170): a request handed over while every reply slot is taken. -/
def execRequestOverflow (src : Byte) (payload : List Byte) (s : State) : Host.Outcome State Fault Refusal :=
  .next (takeRequest src payload s)

/-- BAD_FORM (R165). -/
def execBadForm (src : Byte) (payload : List Byte) (s : State) : Host.Outcome State Fault Refusal :=
  .next (takeRequest src payload s)

/-- UNKNOWN_REQUEST (R165). -/
def execUnknownRequest (src num code : Byte) (body : List Byte) (s : State) :
    Host.Outcome State Fault Refusal :=
  .next (takeCode src num code body s)

/-- LINE_LOAD (R24). -/
def execLineLoad (src num : Byte) (image : List Byte) (s : State) : Host.Outcome State Fault Refusal :=
  .next (takeCode src num 1#8 image s)

/-- MODE_SET RUN (R17). -/
def execModeSetRun (src num : Byte) (s : State) : Host.Outcome State Fault Refusal :=
  .next (served src num 2#8 modeRun s)

/-- MODE_SET FINISH (R17, R19). -/
def execModeSetFinish (src num : Byte) (s : State) : Host.Outcome State Fault Refusal :=
  .next (served src num 2#8 modeFinish s)

/-- MODE_SET STOP (R17, R22). -/
def execModeSetStop (src num : Byte) (s : State) : Host.Outcome State Fault Refusal :=
  .next (served src num 2#8 modeStop s)

/-- MODE_SET CLEAR (R17, R18). -/
def execModeSetClear (src num : Byte) (s : State) : Host.Outcome State Fault Refusal :=
  .next (served src num 2#8 modeClear s)

/-- MODE_SET with another argument (R17). -/
def execModeSetBadArgument (src num arg : Byte) (s : State) : Host.Outcome State Fault Refusal :=
  .next (served src num 2#8 (modeSet arg.toNat) s)

/-- AMBIENT_SET (R28). -/
def execAmbientSet (src num : Byte) (value : BitVec 16) (s : State) : Host.Outcome State Fault Refusal :=
  .next (served src num 3#8 (setAmbient value.toInt) s)

/-- TABLE_OPEN clear (R80, R81). -/
def execTableOpenClear (src num : Byte) (s : State) : Host.Outcome State Fault Refusal :=
  .next (served src num 4#8 openClear s)

/-- TABLE_OPEN copy (R80, R82, R169). -/
def execTableOpenCopy (src num : Byte) (s : State) : Host.Outcome State Fault Refusal :=
  .next (servedCopy src num s)

/-- TABLE_OPEN with another argument (R80). -/
def execTableOpenBadArgument (src num arg : Byte) (s : State) : Host.Outcome State Fault Refusal :=
  .next (servedOpen src num arg.toNat s)

/-- TABLE_ENTRY (R85). -/
def execTableEntry (src num : Byte) (image : List Byte) (s : State) : Host.Outcome State Fault Refusal :=
  .next (takeCode src num 5#8 image s)

/-- TABLE_TRIM (R85). -/
def execTableTrim (src num : Byte) (image : List Byte) (s : State) : Host.Outcome State Fault Refusal :=
  .next (takeCode src num 6#8 image s)

/-- TABLE_CLOSE (R86). -/
def execTableClose (src num : Byte) (s : State) : Host.Outcome State Fault Refusal :=
  .next (served src num 7#8 closeBank s)

/-- TABLE_SWAP (R87). -/
def execTableSwap (src num : Byte) (s : State) : Host.Outcome State Fault Refusal :=
  .next (served src num 8#8 swapBanks s)

/-- TABLE_READ (R92). -/
def execTableRead (src num bank item : Byte) (s : State) : Host.Outcome State Fault Refusal :=
  .next (served src num 9#8 (readTable bank item) s)

/-- ARM_RESTORE (R139). -/
def execArmRestore (src num channel : Byte) (s : State) : Host.Outcome State Fault Refusal :=
  .next (served src num 10#8 (armRestore channel) s)

/-- STATUS_READ (R172). -/
def execStatusRead (src num : Byte) (s : State) : Host.Outcome State Fault Refusal :=
  .next (served src num 11#8 readStatus s)

/-- LOG_LIST (R173). -/
def execLogList (src num : Byte) (s : State) : Host.Outcome State Fault Refusal :=
  .next (served src num 12#8 listLogs s)

/-- COUNTERS_READ with option 0 (R175). -/
def execCountersRead (src num : Byte) (s : State) : Host.Outcome State Fault Refusal :=
  .next (served src num 13#8 readCounters s)

/-- COUNTERS_READ with option 1 (R175). -/
def execCountersReadClear (src num : Byte) (s : State) : Host.Outcome State Fault Refusal :=
  .next (served src num 13#8 readClearCounters s)

/-- COUNTERS_READ with another option (R175). -/
def execCountersReadBadOption (src num opt : Byte) (s : State) : Host.Outcome State Fault Refusal :=
  .next (served src num 13#8 (countersByOption opt.toNat) s)

/-- LINE_RESET (R176). -/
def execLineReset (src num : Byte) (s : State) : Host.Outcome State Fault Refusal :=
  .next (served src num 14#8 lineReset s)

end Sys2Proof.Machine
end

