-- ==== Sys2Proof/Machine/Dispatch.lean ====
section
/-! DEFINITION. The dispatch: one arm per row of the table of operations and events. -/

namespace Sys2Proof.Machine

def exec (i : Instr) (s : State) : Host.Outcome State Fault Refusal :=
  match i with
  | .hardwareReset a b trip => Sys2Proof.Machine.execHardwareReset a b trip s
  | .receiveByte port byte => Sys2Proof.Machine.execReceiveByte port byte s
  | .byteGapTimeout port => Sys2Proof.Machine.execByteGapTimeout port s
  | .forbiddenKind f => Sys2Proof.Machine.execForbiddenKind f s
  | .forwardDownstream f => Sys2Proof.Machine.execForwardDownstream f s
  | .logScan dest src payload => Sys2Proof.Machine.execLogScan dest src payload s
  | .logVoid dest src payload => Sys2Proof.Machine.execLogVoid dest src payload s
  | .upstreamArbitration => Sys2Proof.Machine.execUpstreamArbitration s
  | .portDFrameEnd => Sys2Proof.Machine.execPortDFrameEnd s
  | .requestOverflow src payload => Sys2Proof.Machine.execRequestOverflow src payload s
  | .badForm src payload => Sys2Proof.Machine.execBadForm src payload s
  | .unknownRequest src num code body => Sys2Proof.Machine.execUnknownRequest src num code body s
  | .lineLoad src num image => Sys2Proof.Machine.execLineLoad src num image s
  | .modeSetRun src num => Sys2Proof.Machine.execModeSetRun src num s
  | .modeSetFinish src num => Sys2Proof.Machine.execModeSetFinish src num s
  | .modeSetStop src num => Sys2Proof.Machine.execModeSetStop src num s
  | .modeSetClear src num => Sys2Proof.Machine.execModeSetClear src num s
  | .modeSetBadArgument src num arg => Sys2Proof.Machine.execModeSetBadArgument src num arg s
  | .ambientSet src num value => Sys2Proof.Machine.execAmbientSet src num value s
  | .tableOpenClear src num => Sys2Proof.Machine.execTableOpenClear src num s
  | .tableOpenCopy src num => Sys2Proof.Machine.execTableOpenCopy src num s
  | .tableOpenBadArgument src num arg => Sys2Proof.Machine.execTableOpenBadArgument src num arg s
  | .tableEntry src num image => Sys2Proof.Machine.execTableEntry src num image s
  | .tableTrim src num image => Sys2Proof.Machine.execTableTrim src num image s
  | .tableClose src num => Sys2Proof.Machine.execTableClose src num s
  | .tableSwap src num => Sys2Proof.Machine.execTableSwap src num s
  | .tableRead src num bank item => Sys2Proof.Machine.execTableRead src num bank item s
  | .armRestore src num channel => Sys2Proof.Machine.execArmRestore src num channel s
  | .statusRead src num => Sys2Proof.Machine.execStatusRead src num s
  | .logList src num => Sys2Proof.Machine.execLogList src num s
  | .countersRead src num => Sys2Proof.Machine.execCountersRead src num s
  | .countersReadClear src num => Sys2Proof.Machine.execCountersReadClear src num s
  | .countersReadBadOption src num opt => Sys2Proof.Machine.execCountersReadBadOption src num opt s
  | .lineReset src num => Sys2Proof.Machine.execLineReset src num s
  | .encoderTransition a b => Sys2Proof.Machine.execEncoderTransition a b s
  | .speedWindowEnd => Sys2Proof.Machine.execSpeedWindowEnd s
  | .dwellSet => Sys2Proof.Machine.execDwellSet s
  | .rotorPulse r edge => Sys2Proof.Machine.execRotorPulse r edge s
  | .rotorTimeout r => Sys2Proof.Machine.execRotorTimeout r s
  | .eyeEdge e dark => Sys2Proof.Machine.execEyeEdge e dark s
  | .tripInputChange asserted => Sys2Proof.Machine.execTripInputChange asserted s
  | .copyItem => Sys2Proof.Machine.execCopyItem s
  | .cycleStart due => Sys2Proof.Machine.execCycleStart s due
  | .reportTimeout => Sys2Proof.Machine.execReportTimeout s
  | .reportLimit => Sys2Proof.Machine.execReportLimit s
  | .armReport dest src payload => Sys2Proof.Machine.execArmReport dest src payload s
  | .replyFromStation f => Sys2Proof.Machine.execReplyFromStation f s
  | .replyTimeout => Sys2Proof.Machine.execReplyTimeout s
  | .replyLimit => Sys2Proof.Machine.execReplyLimit s
  | .unsolicited f => Sys2Proof.Machine.execUnsolicited f s

end Sys2Proof.Machine
end

