-- ==== Sys2Proof/Safety.lean ====
section
/-! DEFINITION. The terms claims use: the reply a request is answered with, a run of several commands, the
conditions on the two images, effects that several claims speak of, a codeword with a wrong bit, and the
invariants that every step keeps. -/

namespace Sys2Proof.Machine

/-! ## Replies and runs -/

/-- The state t with the reply to a request placed in its reply queue (R166, R168): to the request's
source, from the own address of the state s that took it. -/
def State.answered (s t : State) (src num code outcome detail : Byte) (body : List Byte) : State :=
  { t with requests := { t.requests with
      replies := t.requests.replies ++
        [Frame.mk src s.switch.ownAddr 0x21#8 (num :: code :: outcome :: detail :: body)] } }

/-- Some reply slot is free (R170). -/
abbrev State.slotFree (s : State) : Prop := s.slotsTaken < 8

/-- The state with one counter raised by one, 65535 held (R174), and nothing else changed. -/
def State.counted (s : State) (c : Counter) : State := s.bump c

/-- Commands executed one after another; the first stop ends the run. -/
def execAll : List Instr → State → Host.Outcome State Fault Refusal
  | [], s => .next s
  | c :: rest, s =>
    match exec c s with
    | .next t => execAll rest t
    | .fault f => .fault f
    | .refused r => .refused r

/-- The commands that hand a REQUEST to Request Service (R165). -/
def isRequestRow : Instr → Bool
  | .requestOverflow _ _ => true
  | .badForm _ _ => true
  | .unknownRequest _ _ _ _ => true
  | .lineLoad _ _ _ => true
  | .modeSetRun _ _ => true
  | .modeSetFinish _ _ => true
  | .modeSetStop _ _ => true
  | .modeSetClear _ _ => true
  | .modeSetBadArgument _ _ _ => true
  | .ambientSet _ _ _ => true
  | .tableOpenClear _ _ => true
  | .tableOpenCopy _ _ => true
  | .tableOpenBadArgument _ _ _ => true
  | .tableEntry _ _ _ => true
  | .tableTrim _ _ _ => true
  | .tableClose _ _ => true
  | .tableSwap _ _ => true
  | .tableRead _ _ _ _ => true
  | .armRestore _ _ _ => true
  | .statusRead _ _ => true
  | .logList _ _ => true
  | .countersRead _ _ => true
  | .countersReadClear _ _ => true
  | .countersReadBadOption _ _ _ => true
  | .lineReset _ _ => true
  | .hardwareReset _ _ _ => false
  | .receiveByte _ _ => false
  | .byteGapTimeout _ => false
  | .forbiddenKind _ => false
  | .forwardDownstream _ => false
  | .logScan _ _ _ => false
  | .logVoid _ _ _ => false
  | .upstreamArbitration => false
  | .portDFrameEnd => false
  | .encoderTransition _ _ => false
  | .speedWindowEnd => false
  | .dwellSet => false
  | .rotorPulse _ _ => false
  | .rotorTimeout _ => false
  | .eyeEdge _ _ => false
  | .tripInputChange _ => false
  | .copyItem => false
  | .cycleStart _ => false
  | .reportTimeout => false
  | .reportLimit => false
  | .armReport _ _ _ => false
  | .replyFromStation _ => false
  | .replyTimeout => false
  | .replyLimit => false
  | .unsolicited _ => false

/-! ## The conditions on the two images (R23, R77), read off their bytes (section 10.6) -/

/-- Whether field n of a line record image meets its condition (R23). Fields 27 and 28 have none. -/
def LineFieldOk (p : List Byte) (n : Nat) : Prop :=
  let byte := rd8 p
  let word := rd16 p
  let counts := fun offset => roundDiv ((word offset : Int) * 1000) (word 4)
  let eye1 := counts 6 - counts 10
  let eye2 := counts 8 - counts 12
  match n with
  | 1 => 1 ≤ byte 0 ∧ byte 0 ≤ 239
  | 2 => byte 1 = 1 ∨ byte 1 = 2
  | 3 => 1 ≤ byte 2 ∧ byte 2 ≤ 239 ∧ byte 2 ≠ byte 0
  | 4 => 1 ≤ byte 3 ∧ byte 3 ≤ 239 ∧ byte 3 ≠ byte 0 ∧ byte 3 ≠ byte 2
  | 5 => 100 ≤ word 4 ∧ word 4 ≤ 2000
  | 6 => 1000 ≤ word 6 ∧ word 6 ≤ 30000
  | 7 => word 6 + 500 < word 8 ∧ word 8 ≤ 30000
  | 8 => 100 ≤ word 10 ∧ word 10 ≤ 2000
  | 9 => 100 ≤ word 12 ∧ word 12 ≤ 2000
  | 10 => 20 ≤ word 14 ∧ word 14 ≤ 500 ∧ word 14 < word 10 ∧ word 14 < word 12
      ∧ counts 14 < counts 10 ∧ counts 14 < counts 12 ∧ eye1 + 2 * counts 14 < eye2
  | 11 => word 16 ≤ 1000
  | 12 => 2000 ≤ word 18 ∧ word 18 ≤ 20000
  | 13 => 40 ≤ word 20 ∧ word 20 ≤ 1200
  | 14 => 1000 ≤ word 22 ∧ word 22 ≤ 16000
  | 15 => 50 ≤ word 24 ∧ word 24 ≤ 4000
  | 16 => 2 ≤ byte 26 ∧ byte 26 ≤ 50
  | 17 => 50 ≤ word 27 ∧ word 27 ≤ 500
  | 18 => 20 ≤ word 29 ∧ word 29 ≤ 500
  | 19 => 100 ≤ word 31 ∧ word 31 ≤ 10000
  | 20 => byte 33 ≤ 100
  | 21 => 1 ≤ byte 34 ∧ byte 34 ≤ 32
  | 22 => 50 ≤ word 35 ∧ word 35 ≤ 1000
  | 23 => word 35 < word 37 ∧ word 37 ≤ 1200
  | 24 => 50 ≤ word 39 ∧ word 39 ≤ 3000
  | 25 => 1 ≤ byte 41 ∧ byte 41 ≤ 15
  | 26 => byte 42 ≤ 100
  | _ => True

/-- Whether field n of a species entry image meets its condition (R77); D_i is field 2i + 1 at offset 4i − 2,
P_i field 2i + 2 at 4i, and a slot above the breakpoint count is not examined. -/
def EntryFieldOk (p : List Byte) (n : Nat) : Prop :=
  let byte := rd8 p
  let word := rd16 p
  let used := fun i => i ≤ byte 1
  match n with
  | 1 => byte 0 ≤ 31
  | 2 => 2 ≤ byte 1 ∧ byte 1 ≤ 6
  | 3 => used 1 → 40 ≤ word 2 ∧ word 2 ≤ 1200
  | 4 => used 1 → word 4 ≤ 16000
  | 5 => used 2 → 40 ≤ word 6 ∧ word 6 ≤ 1200 ∧ word 2 < word 6
  | 6 => used 2 → word 8 ≤ 16000
  | 7 => used 3 → 40 ≤ word 10 ∧ word 10 ≤ 1200 ∧ word 6 < word 10
  | 8 => used 3 → word 12 ≤ 16000
  | 9 => used 4 → 40 ≤ word 14 ∧ word 14 ≤ 1200 ∧ word 10 < word 14
  | 10 => used 4 → word 16 ≤ 16000
  | 11 => used 5 → 40 ≤ word 18 ∧ word 18 ≤ 1200 ∧ word 14 < word 18
  | 12 => used 5 → word 20 ≤ 16000
  | 13 => used 6 → 40 ≤ word 22 ∧ word 22 ≤ 1200 ∧ word 18 < word 22
  | 14 => used 6 → word 24 ≤ 16000
  | 15 => word 26 ≤ 16000
  | 16 => word 26 ≤ word 28 ∧ word 28 ≤ 16000
  | 17 => -100 ≤ rdS16 p 30 ∧ rdS16 p 30 ≤ 50
  | 18 => -400 ≤ rdS16 p 32 ∧ rdS16 p 32 < rdS16 p 30
  | 19 => 100 ≤ word 34 ∧ word 34 ≤ 300
  | 20 => 100 ≤ word 36 ∧ word 36 ≤ 3000
  | 21 => -100 ≤ rdS16 p 38 ∧ rdS16 p 38 ≤ 100
  | 22 => 20 ≤ byte 40 ∧ byte 40 ≤ 100
  | 23 => word 41 ≤ 2000
  | 24 => 20 ≤ byte 43 ∧ byte 43 ≤ 100
  | 25 => word 44 ≤ 2000
  | _ => True

/-- Field n is the first that fails its condition (R24, R77). -/
def FirstFault (ok : Nat → Prop) (n : Nat) : Prop := ¬ ok n ∧ ∀ m, m < n → ok m

/-! ## Effects that several claims speak of -/

/-- The Port D transmitter begins to drive a frame at a moment (R2, R14); a frame in reception is aborted and
counted once (R3, R4). -/
def State.drives (s : State) (f : Frame) (now : Nat) : State :=
  let tx := some { frame := f, bytes := wire f, endsAt := now + 5 * (wire f).length }
  let rx := s.portD.rx
  if rx.phase = .hunt then { s with portD := { s.portD with tx := tx } }
  else State.counted
    { s with portD := { s.portD with
        tx := tx, rx := { rx with phase := .hunt, escPending := false, gathered := [] } } } .framesAborted

/-- A cycle start taken at a moment (R145 to R147): the number raised, the next start one period later, every
channel composed from the state as it stands, CYCLE_SYNC driven, and nothing left of the cycle before. -/
def State.started (s : State) (l : Line) (now : Nat) : State :=
  let number := (s.cycle.number + 1) % 65536
  let composed := fun k => mapIndexed (composeChannel s k) 0 (s.arms.channels.get k)
  let commands := fun k => mapIndexed (commandOf s k) 0 (s.arms.channels.get k)
  State.drives
    { s with
      now := now
      arms := { s.arms with channels := { one := composed .one, two := composed .two } }
      cycle := { s.cycle with
        number := number, phase := .sync, nextDue := some (now + l.record.period * 1000)
        composed := some { one := commands .one, two := commands .two }
        wait := none, deferred := false, cutPending := false } }
    (Frame.mk 255#8 s.switch.ownAddr 0x30#8 (be16 number)) now

/-- What a frame offered to the downstream forward queue of the state u does (R10): dropped and counted in UNSET or
without room, and else queued at the tail with its reply-awaited mark. While forwarding is idle with nothing queued it
is examined at once (R156): sent when it fits in the time to the next start, a frame in reception on Port D being
aborted (R3), and otherwise queued with forwarding closed. -/
def State.OfferedDown (u : State) (f : Frame) (awaited : Bool) (answers : State → Prop) : Prop :=
  ∀ (l : Line) (due : Nat),
    let room := (u.switch.down.map (fun e => 4 + e.frame.payload.length)).sum + (4 + f.payload.length) ≤ 1024
    let need := 5 * (wire f).length + (if awaited then l.record.reportTimeout else 0)
    let queued := { u with switch := { u.switch with down := u.switch.down ++ [{ frame := f, awaited := awaited }] } }
    let taken := u.mode.mode ≠ .unset ∧ room
    let atOnce := taken ∧ u.cycle.phase = .window .idle ∧ u.mode.line = some l ∧ u.cycle.nextDue = some due
      ∧ u.switch.down = []
    (¬ taken → answers (u.counted .forwardDropped))
    ∧ (taken → u.cycle.phase ≠ .window .idle → answers queued)
    ∧ (atOnce → u.portD.tx = none → need ≤ due - u.now → answers (State.drives
        { u with cycle := { u.cycle with phase := .window (.sending awaited f.dest), headMiss := 0 } } f u.now))
    ∧ (atOnce → due - u.now < need → answers { queued with cycle := { u.cycle with phase := .window .closed } })

/-- What becomes of the copy of a log frame (R9), after the Log Tracker has taken the frame and left the state u: it is
offered downstream, no reply awaited, when the line record says so, and nothing happens otherwise. -/
def State.CopyOffered (u : State) (l : Line) (f : Frame) (answers : State → Prop) : Prop :=
  (l.record.forwardLogs = false → answers u) ∧ (l.record.forwardLogs = true → u.OfferedDown f false answers)

/-- What follows where the next head is examined after a forwarded frame or its reply wait (R145, R156), from the
state u in which that exchange is over, at the moment u.now: with nothing queued forwarding is idle; a head that fits
in the time to the next start is sent, aborting a frame in reception (R3); one that does not closes forwarding,
without a head miss. That a start deferred in the exchange is taken in the same step is the model's choice
(log 11). -/
def State.NextHead (u : State) (l : Line) (answers : State → Prop) : Prop :=
  ∀ (e : DownEntry) (rest : List DownEntry) (due : Nat),
    let window := fun f : Forwarding => { u with cycle := { u.cycle with phase := .window f } }
    let closing := fun t : State => if u.cycle.deferred = true then t.started l u.now else t
    let need := 5 * (wire e.frame).length + (if e.awaited then l.record.reportTimeout else 0)
    (u.switch.down = [] → answers (closing (window .idle)))
    ∧ (u.switch.down = e :: rest → u.cycle.nextDue = some due →
        (need ≤ due - u.now → answers (State.drives
          { u with
            switch := { u.switch with down := rest }
            cycle := { u.cycle with phase := .window (.sending e.awaited e.frame.dest), headMiss := 0 } }
          e.frame u.now))
        ∧ (due - u.now < need → answers (closing (window .closed))))

/-- What follows the end of node k's report wait (R145, R148, R154, R156 to R158), from the state u in which the wait
is over, at the moment u.now. After node 1's on a line of two stations node 2's composed ARM_SETPOINT goes out. After
the last the service window opens and examines the head: none leaves forwarding idle and the miss count as it was (the
model's choice in states where it is not 0, log 25); one that fits is sent and the miss count is 0; one that does not
is a head miss and closes forwarding, and at the third in succession it is discarded and counted, and the next head is
examined, which is sent or is its own first miss. That a deferred start is taken in the same step is the model's
choice (log 11). -/
def State.AfterReportWait (u : State) (l : Line) (k : Station) (answers : State → Prop) : Prop :=
  ∀ (e e' : DownEntry) (rest rest' : List DownEntry) (due : Nat) (cs : Pair (List ArmCommand)),
    let window := fun (f : Forwarding) (miss : Nat) (left : List DownEntry) =>
      { u with
        switch := { u.switch with down := left }
        cycle := { u.cycle with phase := .window f, headMiss := miss } }
    let closing := fun t : State => if u.cycle.deferred = true then t.started l u.now else t
    let setpoint := Frame.mk (BitVec.ofNat 8 l.record.node2) u.switch.ownAddr 0x31#8
      (be16 u.cycle.number ++ cs.two.flatMap (fun c => be8 (if c.close then 1 else 0) ++ be16 c.setpoint))
    let need := fun e : DownEntry => 5 * (wire e.frame).length + (if e.awaited then l.record.reportTimeout else 0)
    let sends := fun (e : DownEntry) (left : List DownEntry) => window (.sending e.awaited e.frame.dest) 0 left
    let last := k = .two ∨ l.record.stations ≠ 2
    let head := u.switch.down = e :: rest ∧ u.cycle.nextDue = some due
    let third := head ∧ due - u.now < need e ∧ 2 ≤ u.cycle.headMiss
    (k = .one → l.record.stations = 2 → u.cycle.composed = some cs →
      answers (State.drives { u with cycle := { u.cycle with phase := .setpoint .two } } setpoint u.now))
    ∧ (last → u.switch.down = [] → answers (closing (window .idle u.cycle.headMiss [])))
    ∧ (last → head → need e ≤ due - u.now → answers ((sends e rest).drives e.frame u.now))
    ∧ (last → head → due - u.now < need e → u.cycle.headMiss < 2 →
        answers (closing (window .closed (u.cycle.headMiss + 1) u.switch.down)))
    ∧ (last → third → rest = [] → answers (closing ((window .idle 0 []).counted .serviceDiscarded)))
    ∧ (last → third → rest = e' :: rest' → need e' ≤ due - u.now →
        answers (((sends e' rest').counted .serviceDiscarded).drives e'.frame u.now))
    ∧ (last → third → rest = e' :: rest' → due - u.now < need e' →
        answers (closing ((window .closed 1 rest).counted .serviceDiscarded)))

/-- A byte b is the data byte v to a receiver (R3): as it stands, or escaped. -/
def Receiver.reads (rx : Receiver) (b v : Byte) : Prop :=
  (rx.escPending = false ∧ b ≠ 0xB6#8 ∧ b ≠ 0xB7#8 ∧ b ≠ 0xB8#8 ∧ v = b)
  ∨ (rx.escPending = true ∧ (b = 0x96#8 ∨ b = 0x97#8 ∨ b = 0x98#8) ∧ v = b ^^^ 0x20#8)

/-- The receiver back in HUNT (R3). -/
def Receiver.hunted (rx : Receiver) : Receiver := { rx with phase := .hunt, escPending := false, gathered := [] }

/-- A byte b makes the frame in reception good (R7): it is the last CRC byte of the frame f. -/
def Receiver.completes (rx : Receiver) (b : Byte) (f : Frame) : Prop :=
  ∃ v len, rx.phase = .body f.dest f.src f.kind len ∧ rx.gathered.length = len.toNat + 1 ∧ rx.reads b v
    ∧ f.payload = rx.gathered.take len.toNat
    ∧ crcBytes f.payload = (rx.gathered ++ [v]).drop len.toNat

/-- A byte b, at a moment, ends the frame in reception badly and leaves the receiver as r, counted in c: a START, which
begins another frame; an IDLE or a byte that no ESC precedes, in HUNT (R4); a header that fails its check (R6); a CRC
that disagrees (R7). -/
def Receiver.spoils (rx : Receiver) (now : Nat) (b : Byte) (r : Receiver) (c : Counter) : Prop :=
  rx.phase ≠ .hunt ∧
    ((b = 0xB6#8 ∧ r = { phase := .header, escPending := false, gathered := [], gapFrom := now } ∧ c = .framesAborted)
    ∨ ((b = 0xB8#8 ∨ (rx.escPending = true ∧ b ≠ 0xB6#8 ∧ b ≠ 0x96#8 ∧ b ≠ 0x97#8 ∧ b ≠ 0x98#8))
        ∧ r = rx.hunted ∧ c = .framesAborted)
    ∨ (∃ v b0 b1 b2 b3, rx.phase = .header ∧ rx.gathered = [b0, b1, b2, b3] ∧ rx.reads b v
        ∧ checkHeader b0 b1 b2 b3 v = none ∧ r = rx.hunted ∧ c = .hecFailed)
    ∨ (∃ v d sr k len, rx.phase = .body d sr k len ∧ rx.gathered.length = len.toNat + 1 ∧ rx.reads b v
        ∧ crcBytes (rx.gathered.take len.toNat) ≠ (rx.gathered ++ [v]).drop len.toNat
        ∧ r = rx.hunted ∧ c = .crcFailed))

/-- The frame in reception on Port D ends with the byte that waits directly behind the command being taken (R162; the
model's choice of what arrives together, log 32): good, or failing at its header or its CRC. -/
def State.EndsNow (s : State) : Prop :=
  ∃ b rest, s.pending = .receiveByte .d b :: rest
    ∧ ((∃ f, s.portD.rx.completes b f) ∨ ∃ r x, s.portD.rx.spoils s.now b r x ∧ x ≠ .framesAborted)

/-- What a cut with the line released makes of the Port D reception of the state s, in the state t after it: none goes
on, a frame in reception is aborted and counted once (R3, R161), and one that ends now is kept for its last byte and not
counted (R162). -/
def State.CutsReception (s t : State) : Prop :=
  t.portD.rx.phase = .hunt
  ∧ (s.portD.rx.phase = .hunt → t.portD.cut = s.portD.cut
      ∧ t.requests.counters.get .framesAborted = s.requests.counters.get .framesAborted)
  ∧ (s.portD.rx.phase ≠ .hunt → ¬ s.EndsNow → t.portD.cut = s.portD.cut
      ∧ t.requests.counters.get .framesAborted = (s.counted .framesAborted).requests.counters.get .framesAborted)
  ∧ (s.EndsNow → t.portD.cut = some { rx := s.portD.rx, moment := s.now }
      ∧ t.requests.counters.get .framesAborted = s.requests.counters.get .framesAborted)

/-- A channel whose station enters IDLE: a pending restore is completed (R119, R140). -/
def Channel.restored (c : Channel) : Channel :=
  if c.pendingRestore then
    { c with state := .ready, pendingRestore := false, lastSent := 0, previous := 0, closedCycles := 0
             deviations := 0 } else c

/-- A station set IDLE (R119); one that is IDLE already enters nothing. -/
def ArmController.idled (a : ArmController) (k : Station) : ArmController :=
  if a.stations.get k = .idle then a
  else { stations := a.stations.set k .idle
         channels := a.channels.set k ((a.channels.get k).map Channel.restored) }

/-- The examination of a station in LOCKOUT against the records queued (R127): IDLE when its rotor is at speed
and none of them lies across its contact line. -/
def State.unlocked (s : State) (queue : List LogRecord) (k : Station) (a : ArmController) : ArmController :=
  if s.follows k = true ∧ a.stations.get k = .lockout ∧ (s.inputs.rotors.get k).under = false
      ∧ (∀ x ∈ queue, ¬ ((x.at k).confirmed ≠ .no ∧ (x.at k).tracked = true ∧ (x.at k).contact = .on))
  then a.idled k else a

/-- A bank from which one record is released (R89, R90). -/
def Bank.released (x : Bank) : Bank :=
  { x with refs := x.refs - 1, state := if x.state = .retiring ∧ x.refs ≤ 1 then .idle else x.state }

/-- A single record removed, with the queue it leaves (R72): its bank's count falls (R90), a station still ENGAGED
with it falls IDLE (the model's choice, log 31), a station in LOCKOUT is examined (R127, R128), and FINISHING ends
with the last record (R19, R129). -/
def State.without (s : State) (r : LogRecord) (left : List LogRecord) : State :=
  let drop := fun (k : Station) (a : ArmController) => if a.stations.get k = .engaged r.id then a.idled k else a
  let a := s.unlocked left .two (s.unlocked left .one (drop .two (drop .one s.arms)))
  let t := { s with
    tracker := { s.tracker with queue := left }
    tables := s.tables.setBank r.bank (s.tables.bank r.bank).released
    arms := a }
  if s.mode.mode = .finishing ∧ left = []
  then { t with mode := { t.mode with mode := .standby }, arms := (a.idled .one).idled .two } else t

/-- A record's joined flag decided anew against its predecessor (R69). -/
def LogRecord.rejoined (minGap : Int) (pred : Option LogRecord) (r : LogRecord) : LogRecord :=
  { r with joined :=
      match pred with
      | none => false
      | some p => r.joinForced ||
          (match p.length with
           | some n => decide (travelDiff r.b (p.b + BitVec.ofInt 24 n.counts) < minGap)
           | none => r.joined) }

/-- The records after one of the queue, with the flag of the first of them decided anew (R69). -/
def rejoinedNext (minGap : Int) (pred : Option LogRecord) : List LogRecord → List LogRecord
  | [] => []
  | y :: rest => y.rejoined minGap pred :: rest

/-- A standing whose window and contact positions are those of a position T − B (R57, R58). -/
def Standing.standsAt (c : Counts) (k : Station) (len : Option LogLength) (pos : Int) (x : Standing) : Prop :=
  (x.window = .short ↔ pos < c.eye.get k - c.tolerance) ∧ (x.window = .past ↔ c.eye.get k + c.tolerance < pos)
  ∧ (x.contact = .short ↔ pos < c.contact.get k)
  ∧ (x.contact = .clear ↔ c.contact.get k ≤ pos ∧ ∃ n, len = some n ∧ c.contact.get k + n.counts ≤ pos)

/-- The length limit has not been reached (R70). -/
def LogRecord.unlimited (l : Line) (pos : Int) (r : LogRecord) : Prop :=
  r.length = none → ∀ k, l.inUse k = true → (r.at k).passedUnseen = false →
    pos < l.counts.contact.get k + l.counts.maxLength

/-- A record with which nothing happens at a travel count: it stands as it stood, and no loss of it is pending. -/
def LogRecord.still (l : Line) (t : Travel) (r : LogRecord) : Prop :=
  (∀ k, l.inUse k = true → (r.at k).standsAt l.counts k r.length (travelDiff t r.b))
  ∧ (∀ k, (r.at k).lostPending = false) ∧ r.unlimited l (travelDiff t r.b)

/-- The blocked-eye check of R43 finds an eye blocked at a travel count. -/
def Eye.blockedAt (line : Option Line) (t : Travel) (e : Eye) : Prop :=
  e.dark = true ∧ e.fault = false
    ∧ ∃ l d, line = some l ∧ e.darkSince = some d ∧ l.counts.maxLength + l.counts.minGap < travelDiff t d

/-! ## Codewords (R5, R6) -/

/-- The HEC bit that holds the check bit of a codeword position, if the position is a power of two (R5). -/
def checkIndex? (p : Nat) : Option Nat := [1, 2, 4, 8, 16, 32].findIdx? (fun q => q == p)

/-- The content of a codeword position 1..38 (R5, section 10.1): a check bit of the HEC byte at a power of
two, a header bit elsewhere. -/
def codewordBit (h : BitVec 32) (hec : Byte) (p : Nat) : Bool :=
  match checkIndex? p, headerPositions.findIdx? (fun q => q == p) with
  | some i, _ => hec.getLsbD i
  | none, some i => h.getLsbD i
  | none, none => false

/-- A header and its HEC byte as received. -/
structure Codeword where
  header : BitVec 32
  hec    : Byte
deriving DecidableEq, Repr

/-- A codeword with the bit at a position 1..38 inverted in transit. -/
def Codeword.invert (w : Codeword) (p : Nat) : Codeword :=
  match checkIndex? p with
  | some i => { w with hec := w.hec ^^^ BitVec.twoPow 8 i }
  | none => { w with header := invertPosition w.header p }

/-- The codeword a transmitter sends for a header (R5). -/
def Codeword.sent (dest src kind len : Byte) : Codeword :=
  { header := headerBits dest src kind len, hec := hecByte dest src kind len }

/-- The header check of a received codeword (R6). -/
def Codeword.check (w : Codeword) : Option GoodHeader :=
  checkHeader (w.header.extractLsb' 0 8) (w.header.extractLsb' 8 8) (w.header.extractLsb' 16 8)
    (w.header.extractLsb' 24 8) w.hec

/-! ## Invariants -/

/-- The capacities of the part hold: 1024 bytes in each forward queue (R10, R11), 16 log records (R47),
8 reply slots (R168), 65535 in each counter (R174). -/
structure State.CapacityOk (s : State) : Prop where
  down : s.switch.downOccupancy ≤ 1024
  up : (s.switch.up.map storedSize).sum ≤ 1024
  records : s.tracker.queue.length ≤ 16
  slots : s.slotsTaken ≤ 8
  counters : ∀ k ∈ s.requests.counters.toList, k ≤ 65535

/-- What belongs to each mode: UNSET is the absence of a line record (R16, R23), a trip cause is named in
TRIPPED alone (R16), the own address follows the mode (R8), no cycle runs and nothing is sent or queued
downstream in UNSET (R10, R144), records are queued in RUN and FINISHING alone and FINISHING ends with
the last (R19, R47), and a station is held IDLE wherever it does not follow its machine (R118). -/
structure State.ModeOk (s : State) : Prop where
  unset_iff : s.mode.mode = .unset ↔ s.mode.line = none
  cause_iff : s.mode.cause ≠ .none ↔ s.mode.mode = .tripped
  own : s.switch.ownAddr =
    (match s.mode.line with | none => 254#8 | some l => BitVec.ofNat 8 l.record.address)
  halted_iff : s.cycle.phase = .halted ↔ s.mode.mode = .unset
  due_iff : s.cycle.nextDue = none ↔ s.mode.mode = .unset
  quiet : s.mode.mode = .unset → s.portD.tx = none ∧ s.cycle.wait = none ∧ s.switch.down = []
  queued : s.tracker.queue ≠ [] → s.mode.mode.works = true
  finishing : s.mode.mode = .finishing → s.tracker.queue ≠ []
  held_one : s.arms.stations.one ≠ .idle → s.follows .one = true
  held_two : s.arms.stations.two ≠ .idle → s.follows .two = true

/-- A bank's standing (R79, R89, R90): ACTIVE exactly when the mark names it; its reference count is the
number of queued records bound to it; RETIRING only with a count above 0; a count above 0 only when ACTIVE
or RETIRING; COPYING exactly when the copy engine moves items into it. -/
structure State.BankOk (s : State) (k : BankId) : Prop where
  active : (s.tables.bank k).state = .active ↔ s.tables.mark = some k
  refs : (s.tables.bank k).refs = s.tracker.queue.countP (fun r => r.bank == k)
  retiring : (s.tables.bank k).state = .retiring → (s.tables.bank k).refs ≠ 0
  bound : (s.tables.bank k).refs ≠ 0 → (s.tables.bank k).state = .active ∨ (s.tables.bank k).state = .retiring
  copying : (s.tables.bank k).state = .copying ↔ s.tables.copy.map CopyEngine.dest = some k

/-- The Table Store agrees with the log queue, and a request is in flight exactly while a copy runs
(R79, R82, R89, R169). The records' own numbers are distinct (log 7). -/
structure State.TablesOk (s : State) : Prop where
  bank_a : s.BankOk .a
  bank_b : s.BankOk .b
  source : ∀ c, s.tables.copy = some c → s.tables.mark = some c.source ∧ c.dest = c.source.other
  working : s.mode.mode.works = true → s.tables.mark ≠ none
  flight : s.requests.inFlight.isSome = s.tables.copy.isSome
  fresh : ∀ r ∈ s.tracker.queue, r.id < s.tracker.nextId
  distinct : (s.tracker.queue.map LogRecord.id).Nodup

/-- A station is ENGAGED only with a queued record that is confirmed and tracked there (R117). -/
def State.EngagedOk (s : State) : Prop :=
  ∀ k id, s.arms.stations.get k = .engaged id →
    ∃ r ∈ s.tracker.queue, r.id = id ∧ (r.at k).confirmed ≠ .no ∧ (r.at k).tracked = true

/-- The records without a tag are the synthetic ones, and no two queued records carry the same tag (R47). -/
def State.TagsOk (s : State) : Prop :=
  (∀ r ∈ s.tracker.queue, r.tag = none ↔ r.origin = .synthetic)
  ∧ s.tracker.queue.Pairwise (fun x y => x.tag = none ∨ x.tag ≠ y.tag)

/-- The log queue stands in strictly rising butt count (R47). -/
def State.OrderOk (s : State) : Prop := s.tracker.queue.Pairwise (fun x y => 0 < travelDiff y.b x.b)

/-- Every queued record lies within 4000000 counts of the scan line, 400 m at the finest pitch: differences of
butt counts then add up without wrapping (R31). -/
def State.InReach (s : State) : Prop := ∀ r ∈ s.tracker.queue, (s.position r).natAbs ≤ 4000000

/-- A rotor's ranges (R39, R40): a period of at most 2000 ms; without a line record the speed is 0 and the
flag is set. -/
def Rotor.ok (line : Option Line) (r : Rotor) : Prop :=
  r.period ≤ 2000000 ∧ (line = none → r.speed = 0 ∧ r.under = true)

/-- An eye's state (R42 to R45): in FAULT only while dark and under a line record; a dark-since position
exactly while dark. -/
def Eye.ok (line : Option Line) (e : Eye) : Prop :=
  (e.fault = true → e.dark = true ∧ line ≠ none) ∧ e.darkSince.isSome = e.dark

/-- The ranges of the Travel Unit, the inputs and the ambient temperature (R28, R32, R35, R36, R39, R43). -/
structure State.InputsOk (s : State) : Prop where
  ambient : ∀ v, s.mode.ambient = some v → -500 ≤ v ∧ v ≤ 500
  illegal : s.travel.illegal ≤ 255
  encoder : s.travel.failed = false → s.travel.illegal < 8 ∧ s.travel.disturbed = false
  feed : s.travel.feed ≤ 4000
  dwell : s.mode.line = none → s.travel.dwell = false
  rotor_one : s.inputs.rotors.one.ok s.mode.line
  rotor_two : s.inputs.rotors.two.ok s.mode.line
  eye_one : s.inputs.eyes.one.ok s.mode.line
  eye_two : s.inputs.eyes.two.ok s.mode.line

/-- A channel's ranges (R115, R130): setpoints within 0..16000 kPa, and a DISABLED channel holds 0. -/
def Channel.ok (c : Channel) : Prop :=
  c.lastSent ≤ 16000 ∧ c.previous ≤ 16000 ∧ c.closedCycles ≤ 255 ∧ c.deviations ≤ 15
    ∧ (c.state = .disabled → c.lastSent = 0 ∧ c.pendingRestore = false)

/-- A composed command (R97, R114): within 0..16000 kPa, and OPEN carries 0. -/
def ArmCommand.ok (c : ArmCommand) : Prop := c.setpoint ≤ 16000 ∧ (c.close = false → c.setpoint = 0)

/-- A driver node's state (R143, R152, R153): SILENT exactly from the third missing report on. -/
def Node.ok (n : Node) : Prop := n.missing ≤ 255 ∧ (n.silent = true ↔ 3 ≤ n.missing)

/-- Ten channels within their ranges under a line record that meets R23 with the counts of R25, and every
setpoint that waits to be sent within 0..16000 kPa (R114, R130, R143). -/
structure State.ArmsOk (s : State) : Prop where
  line : ∀ l, s.mode.line = some l → firstFault (lineConditions l.record) = none ∧ l.counts = lineCounts l.record
  five_one : s.arms.channels.one.length = 5
  five_two : s.arms.channels.two.length = 5
  channels_one : ∀ c ∈ s.arms.channels.one, c.ok
  channels_two : ∀ c ∈ s.arms.channels.two, c.ok
  composed : ∀ p, s.cycle.composed = some p → ∀ c ∈ p.one ++ p.two, c.ok
  node_one : s.cycle.nodes.one.ok
  node_two : s.cycle.nodes.two.ok
  number : s.cycle.number ≤ 65535
  misses : s.cycle.headMiss ≤ 2

end Sys2Proof.Machine
end

