-- ==== Sys2Proof/Certificates/Slice0/Obligations.lean ====
section
/-! DEFINITION. The statements for the provers. Each `def Obligations.<Name> : Prop` says one thing the
UJ-620 does; OBLIGATIONS.json lists them with the rules and sections of spec/ they rest on. -/

open Sys2Proof Sys2Proof.Machine

/-! ## The machine as a whole -/

/-- A step takes the command at the front of the queue and executes it on the state with the rest. -/
def Obligations.StepRunsFrontCommand : Prop :=
  ∀ (s : State) (c : Instr) (rest : List Instr), s.pending = c :: rest →
    step s = exec c { s with pending := rest }

/-- HARDWARE_RESET leaves `State.reset` with the levels of A, B and the trip line as taken at its end and
the sender's queue as it was; and `State.reset` holds what the chapters give: R8, R12, R13 (switch), R16,
R23, R28 (mode), R37 (travel), R41, R45 (inputs), R47 (queue), R74, R94 (tables), R142 (arms), R143 (cycle),
R177 (requests), R1, R3 (ports). -/
def Obligations.HardwareResetState : Prop :=
  (∀ (a b trip : Bool) (s : State),
    exec (.hardwareReset a b trip) s = .next
      { State.reset with
        travel := { State.reset.travel with lineA := a, lineB := b }
        inputs := { State.reset.inputs with trip := trip }
        pending := s.pending })
  ∧ State.reset.mode = { mode := .unset, cause := .none, line := none, ambient := none }
  ∧ State.reset.switch = { ownAddr := 254#8, down := [], up := [], mark := .forwardQueue }
  ∧ State.reset.requests.replies = [] ∧ State.reset.requests.inFlight = none
  ∧ (∀ k ∈ State.reset.requests.counters.toList, k = 0)
  ∧ State.reset.tables.mark = none ∧ State.reset.tables.copy = none
  ∧ (∀ k, State.reset.tables.bank k =
      { entries := List.replicate 32 none, trims := none, state := .idle, refs := 0 })
  ∧ State.reset.tracker.queue = []
  ∧ State.reset.arms.stations = { one := .idle, two := .idle }
  ∧ (∀ k, State.reset.arms.channels.get k = List.replicate 5
      { state := .disabled, lastSent := 0, previous := 0, closedCycles := 0, deviations := 0,
        clamp := false, pendingRestore := false, position := none })
  ∧ State.reset.cycle.number = 0 ∧ State.reset.cycle.phase = .halted
  ∧ State.reset.cycle.nextDue = none ∧ State.reset.cycle.composed = none
  ∧ (∀ k, State.reset.cycle.nodes.get k = { missing := 0, silent := false })
  ∧ State.reset.cycle.headMiss = 0
  ∧ (∀ k, State.reset.inputs.rotors.get k = { ref := none, period := 0, speed := 0, under := true })
  ∧ (∀ k, State.reset.inputs.eyes.get k = { dark := false, fault := false, darkSince := none })
  ∧ State.reset.travel.t = 0#24 ∧ State.reset.travel.illegal = 0 ∧ State.reset.travel.failed = false
  ∧ State.reset.travel.disturbed = false ∧ State.reset.travel.net = 0 ∧ State.reset.travel.feed = 0
  ∧ State.reset.travel.dwell = false
  ∧ State.reset.portU.tx = none ∧ State.reset.portD.tx = none
  ∧ State.reset.portU.rx.phase = .hunt ∧ State.reset.portD.rx.phase = .hunt

/-- Every invariant holds after reset. -/
def Obligations.InvariantsHoldAtReset : Prop :=
  State.reset.CapacityOk ∧ State.reset.ModeOk ∧ State.reset.TablesOk ∧ State.reset.InputsOk
    ∧ State.reset.ArmsOk ∧ State.reset.EngagedOk ∧ State.reset.TagsOk ∧ State.reset.OrderOk

/-- Every step keeps the capacities: forward queues of 1024 bytes, 16 log records, 8 reply slots, 65535 in
each counter. It keeps the tags of the queued records distinct, with none on a synthetic one, and the queue in
strictly rising butt count (R47): the order under a valid line record, with distinct records that all lie within
4000000 counts of the scan line, since beyond half the travel range a difference of butt counts wraps (R31). -/
def Obligations.CapacitiesKept : Prop :=
  ∀ s t : State, step s = .next t →
    (s.CapacityOk → t.CapacityOk)
    ∧ (s.TagsOk → t.TagsOk)
    ∧ (s.OrderOk → s.InReach → s.TablesOk → s.ArmsOk → t.OrderOk)

/-- Every step keeps what belongs to each mode. -/
def Obligations.ModeInvariantKept : Prop :=
  ∀ s t : State, s.ModeOk → step s = .next t → t.ModeOk

/-- Every step keeps the Table Store in agreement with the log queue: reference counts, bank states, the
mark and the copy engine. With it, a station stays ENGAGED only with a queued record that is confirmed and
tracked there (R117); that a removal leaves none ENGAGED with the removed record is the model's choice where
R128 takes it for granted (log 31). -/
def Obligations.TableInvariantKept : Prop :=
  ∀ s t : State, s.TablesOk → step s = .next t → t.TablesOk ∧ (s.EngagedOk → t.EngagedOk)

/-- Every step keeps the ranges of the Travel Unit, the rotors, the eyes and the ambient temperature. -/
def Obligations.InputRangesKept : Prop :=
  ∀ s t : State, s.InputsOk → step s = .next t → t.InputsOk

/-- Every step keeps the line record valid and every channel, composed setpoint and node in its range; so
no setpoint that is held or waits to be sent is above 16000 kPa, and none that is OPEN is above 0. -/
def Obligations.ArmRangesKept : Prop :=
  ∀ s t : State, s.ArmsOk → step s = .next t → t.ArmsOk

/-- No command changes the images of a bank that records are bound to before and after it (R91). -/
def Obligations.BoundBankKeepsImages : Prop :=
  ∀ (c : Instr) (s t : State) (k : BankId), s.TablesOk → exec c s = .next t →
    (s.tables.bank k).refs ≠ 0 → (t.tables.bank k).refs ≠ 0 →
      (t.tables.bank k).entries = (s.tables.bank k).entries ∧ (t.tables.bank k).trims = (s.tables.bank k).trims

/-! ## The line link -/

/-- A frame's bytes as the transmitter composes them, received one by one on Port U in HUNT, are the frame:
counted once in U_FRAMES_OK and routed, with nothing else counted by the receiver. That the last byte's step
routes the frame (log 1), and that FORWARD_DOWNSTREAM stands for the routing of any frame (log 27), are the
model's choices. -/
def Obligations.WireBytesAreTheFrame : Prop :=
  ∀ (f : Frame) (s : State), f.payload.length ≤ 120 → s.portU.rx.phase = .hunt →
    execAll ((wire f).map (Instr.receiveByte .u)) s =
      exec (.forwardDownstream f)
        (State.counted
          { s with portU := { s.portU with
              rx := { phase := .hunt, escPending := false, gathered := [], gapFrom := s.now } } }
          .uFramesOk)

/-- The HEC byte (R5): each check bit makes its positions even, P makes all of them even, bit 7 is 0, and
the header bits stand in the other positions in rising order, destination first. -/
def Obligations.HecByteIsEvenParity : Prop :=
  ∀ dest src kind len : Byte,
    let w := Codeword.sent dest src kind len
    let one := fun p => codewordBit w.header w.hec p
    (∀ i < 6, ((List.range' 1 38).countP (fun p => p.testBit i && one p)) % 2 = 0)
    ∧ ((List.range' 1 38).countP one + (if w.hec.getLsbD 6 then 1 else 0)) % 2 = 0
    ∧ w.hec.getLsbD 7 = false
    ∧ [1, 2, 4, 8, 16, 32].map one = (List.range 6).map (fun j => w.hec.getLsbD j)
    ∧ [3, 5, 6, 7, 9, 10, 11, 12].map one = (List.range 8).map (fun j => dest.getLsbD j)
    ∧ [13, 14, 15, 17, 18, 19, 20, 21].map one = (List.range 8).map (fun j => src.getLsbD j)
    ∧ [22, 23, 24, 25, 26, 27, 28, 29].map one = (List.range 8).map (fun j => kind.getLsbD j)
    ∧ [30, 31, 33, 34, 35, 36, 37, 38].map one = (List.range 8).map (fun j => len.getLsbD j)

/-- The header check corrects any single wrong bit and detects any two: a sent header is good as it stands
and with bit 7 of the HEC byte wrong; with P alone or any one position 1..38 wrong it is corrected to the
header sent; with two wrong among positions 1..38 and P the frame is discarded. -/
def Obligations.HeaderCheckCorrectsOneDetectsTwo : Prop :=
  ∀ dest src kind len : Byte, len.toNat ≤ 120 →
    let w := Codeword.sent dest src kind len
    let good := fun corrected =>
      some { dest := dest, src := src, kind := kind, len := len, corrected := corrected : GoodHeader }
    let p64 := fun v : Codeword => { v with hec := v.hec ^^^ 64#8 }
    w.check = good false
    ∧ ({ w with hec := w.hec ^^^ 128#8 } : Codeword).check = good false
    ∧ (p64 w).check = good true
    ∧ (∀ p, 1 ≤ p → p ≤ 38 → (w.invert p).check = good true ∧ (p64 (w.invert p)).check = none)
    ∧ (∀ p q, 1 ≤ p → p < q → q ≤ 38 → ((w.invert p).invert q).check = none)

/-- A byte on Port U that goes on with a frame, or is ignored (R3): in HUNT a START begins a frame and any
other byte changes nothing; in HEADER and BODY a data byte is gathered as it stands, an ESC is not gathered
and sets the mark, and one of 0x96, 0x97, 0x98 after an ESC is gathered with bit 5 inverted. -/
def Obligations.ReceiverGathersBytes : Prop :=
  ∀ (s : State) (b : Byte),
    let rx := s.portU.rx
    let put := fun r : Receiver => { s with portU := { s.portU with rx := r } }
    let more := (rx.phase = .header ∧ rx.gathered.length < 4)
      ∨ (∃ d sr k l, rx.phase = .body d sr k l ∧ rx.gathered.length < l.toNat + 1)
    (rx.phase = .hunt → b ≠ 0xB6#8 → exec (.receiveByte .u b) s = .next s)
    ∧ (rx.phase = .hunt → b = 0xB6#8 → exec (.receiveByte .u b) s =
        .next (put { phase := .header, escPending := false, gathered := [], gapFrom := s.now }))
    ∧ (rx.phase ≠ .hunt → rx.escPending = false → b = 0xB7#8 → exec (.receiveByte .u b) s =
        .next (put { rx with escPending := true, gapFrom := s.now }))
    ∧ (more → rx.escPending = false → b ≠ 0xB6#8 → b ≠ 0xB7#8 → b ≠ 0xB8#8 →
        exec (.receiveByte .u b) s =
          .next (put { rx with gathered := rx.gathered ++ [b], gapFrom := s.now }))
    ∧ (more → rx.escPending = true → b = 0x96#8 ∨ b = 0x97#8 ∨ b = 0x98#8 →
        exec (.receiveByte .u b) s =
          .next (put { rx with escPending := false, gathered := rx.gathered ++ [b ^^^ 0x20#8], gapFrom := s.now }))

/-- A frame on Port U that ends without a good result (R4, R6, R7): each is counted once in the counter of
its cause and leaves the receiver in HUNT, or in HEADER where a START aborts it; a good header begins BODY and is
counted when corrected. A data byte v comes as it stands or escaped (R3). -/
def Obligations.ReceiverDiscardsBadFrames : Prop :=
  ∀ (s : State) (b v : Byte),
    let rx := s.portU.rx
    let put := fun r : Receiver => { s with portU := { s.portU with rx := r } }
    let hunt := fun r : Receiver => { r with phase := .hunt, escPending := false, gathered := [] }
    let data := (rx.escPending = false ∧ b ≠ 0xB6#8 ∧ b ≠ 0xB7#8 ∧ b ≠ 0xB8#8 ∧ v = b)
      ∨ (rx.escPending = true ∧ (b = 0x96#8 ∨ b = 0x97#8 ∨ b = 0x98#8) ∧ v = b ^^^ 0x20#8)
    (rx.phase ≠ .hunt → b = 0xB6#8 → exec (.receiveByte .u b) s =
      .next (State.counted
        (put { phase := .header, escPending := false, gathered := [], gapFrom := s.now }) .framesAborted))
    ∧ (rx.phase ≠ .hunt → b = 0xB8#8 → exec (.receiveByte .u b) s =
        .next (State.counted (put (hunt rx)) .framesAborted))
    ∧ (rx.phase ≠ .hunt → rx.escPending = true → b ≠ 0xB6#8 → b ≠ 0x96#8 → b ≠ 0x97#8 → b ≠ 0x98#8 →
        exec (.receiveByte .u b) s = .next (State.counted (put (hunt rx)) .framesAborted))
    ∧ (∀ b0 b1 b2 b3, rx.phase = .header → rx.gathered = [b0, b1, b2, b3] → data →
        checkHeader b0 b1 b2 b3 v = none →
          exec (.receiveByte .u b) s = .next (State.counted (put (hunt rx)) .hecFailed))
    ∧ (∀ b0 b1 b2 b3 g, rx.phase = .header → rx.gathered = [b0, b1, b2, b3] → data →
        checkHeader b0 b1 b2 b3 v = some g →
          let begun := put { phase := .body g.dest g.src g.kind g.len, escPending := false, gathered := [], gapFrom := s.now }
          exec (.receiveByte .u b) s = .next (if g.corrected = true then State.counted begun .hecCorrected else begun))
    ∧ (∀ d sr k l, rx.phase = .body d sr k l → rx.gathered.length = l.toNat + 1 → data →
        crcBytes (rx.gathered.take l.toNat) ≠ (rx.gathered ++ [v]).drop l.toNat →
          exec (.receiveByte .u b) s = .next (State.counted (put (hunt rx)) .crcFailed))

/-- A byte on Port D (R3, R4, R6, R7, R15, R149, R162): not taken while the transmitter drives the line, but for the last
byte of a frame that ends together with a cut taken first: that frame counts by how it ended, a good one in D_FRAMES_OK
and UNSOLICITED. How such a frame is told is the model's choice (log 32). In HUNT a START
begins a frame and cancels the timeout of a wait in progress, and any other byte changes nothing. In HEADER and
BODY an ESC sets the mark and a data byte v, as it stands or escaped, is gathered; a good header begins BODY and is
counted when corrected. With no wait in progress the end of a frame is the whole effect: an abort, a header or a CRC
that fails, each counted once in its counter, and a good frame, counted in D_FRAMES_OK and, unawaited, in
UNSOLICITED. That the good frame is judged in the step of its last byte is the model's choice (log 1). -/
def Obligations.PortDReceiverTakesBytes : Prop :=
  ∀ (s : State) (b v : Byte),
    let rx := s.portD.rx
    let put := fun r : Receiver => { s with portD := { s.portD with rx := r } }
    let hunt := fun r : Receiver => { r with phase := .hunt, escPending := false, gathered := [] }
    let takes := fun t : State => exec (.receiveByte .d b) s = .next t
    let data := (rx.escPending = false ∧ b ≠ 0xB6#8 ∧ b ≠ 0xB7#8 ∧ b ≠ 0xB8#8 ∧ v = b)
      ∨ (rx.escPending = true ∧ (b = 0x96#8 ∨ b = 0x97#8 ∨ b = 0x98#8) ∧ v = b ^^^ 0x20#8)
    let more := (rx.phase = .header ∧ rx.gathered.length < 4)
      ∨ (∃ d sr k l, rx.phase = .body d sr k l ∧ rx.gathered.length < l.toNat + 1)
    let heard := { s with portD := { s.portD with cut := none } }
    (s.portD.tx ≠ none → (∀ c, s.portD.cut = some c → c.moment ≠ s.now) → takes s)
    ∧ (∀ c, s.portD.tx ≠ none → s.portD.cut = some c → c.moment = s.now →
        (∀ f, c.rx.completes b f → takes (State.counted (State.counted heard .dFramesOk) .unsolicited))
        ∧ (∀ r x, c.rx.spoils s.now b r x → takes (State.counted heard x))
        ∧ ((∀ f, ¬ c.rx.completes b f) → (∀ r x, ¬ c.rx.spoils s.now b r x) →
            takes (State.counted heard .framesAborted)))
    ∧ (s.portD.tx = none → rx.phase = .hunt → b ≠ 0xB6#8 → takes s)
    ∧ (s.portD.tx = none → rx.phase = .hunt → b = 0xB6#8 → takes
        { put { phase := .header, escPending := false, gathered := [], gapFrom := s.now } with
          cycle := { s.cycle with wait := s.cycle.wait.map (fun w => { w with begun := true }) } })
    ∧ (s.portD.tx = none → rx.phase ≠ .hunt → rx.escPending = false → b = 0xB7#8 →
        takes (put { rx with escPending := true, gapFrom := s.now }))
    ∧ (s.portD.tx = none → more → data →
        takes (put { rx with escPending := false, gathered := rx.gathered ++ [v], gapFrom := s.now }))
    ∧ (∀ b0 b1 b2 b3 g, s.portD.tx = none → rx.phase = .header → rx.gathered = [b0, b1, b2, b3] → data →
        checkHeader b0 b1 b2 b3 v = some g →
          let begun := put { phase := .body g.dest g.src g.kind g.len, escPending := false, gathered := [], gapFrom := s.now }
          takes (if g.corrected = true then State.counted begun .hecCorrected else begun))
    ∧ (s.portD.tx = none → s.cycle.wait = none → rx.phase ≠ .hunt →
        (b = 0xB6#8 → takes (State.counted
          (put { phase := .header, escPending := false, gathered := [], gapFrom := s.now }) .framesAborted))
        ∧ (b = 0xB8#8 ∨ (rx.escPending = true ∧ b ≠ 0xB6#8 ∧ b ≠ 0x96#8 ∧ b ≠ 0x97#8 ∧ b ≠ 0x98#8) →
            takes (State.counted (put (hunt rx)) .framesAborted))
        ∧ (∀ b0 b1 b2 b3, rx.phase = .header → rx.gathered = [b0, b1, b2, b3] → data →
            checkHeader b0 b1 b2 b3 v = none → takes (State.counted (put (hunt rx)) .hecFailed))
        ∧ (∀ d sr k l, rx.phase = .body d sr k l → rx.gathered.length = l.toNat + 1 → data →
            let payload := rx.gathered.take l.toNat
            let check := (rx.gathered ++ [v]).drop l.toNat
            (crcBytes payload ≠ check → takes (State.counted (put (hunt rx)) .crcFailed))
            ∧ (crcBytes payload = check →
                takes (State.counted (State.counted (put (hunt rx)) .dFramesOk) .unsolicited))))

/-- The byte gap (R4): 50 µs after the last byte of a frame in reception the frame is discarded, the
receiver enters HUNT and the abort is counted once; on Port D this is the whole effect while no wait runs.
In HUNT no gap runs (the model's choice, log 3); that the command moves the clock up to the gap's end is one too
(log 2). -/
def Obligations.ByteGapAborts : Prop :=
  ∀ s : State,
    (s.portU.rx.phase ≠ .hunt → exec (.byteGapTimeout .u) s = .next (State.counted
      { s with
        now := max s.now (s.portU.rx.gapFrom + 50)
        portU := { s.portU with
          rx := { s.portU.rx with phase := .hunt, escPending := false, gathered := [] } } } .framesAborted))
    ∧ (s.portD.rx.phase ≠ .hunt → s.cycle.wait = none → exec (.byteGapTimeout .d) s = .next (State.counted
        { s with
          now := max s.now (s.portD.rx.gapFrom + 50)
          portD := { s.portD with
            rx := { s.portD.rx with phase := .hunt, escPending := false, gathered := [] } } } .framesAborted))
    ∧ (s.portU.rx.phase = .hunt → exec (.byteGapTimeout .u) s = .next s)
    ∧ (s.portD.rx.phase = .hunt → exec (.byteGapTimeout .d) s = .next s)

/-! ## The Frame Switch -/

/-- A counter raised (R174): by one, held at 65535; every other counter and all other state stay. -/
def Obligations.CounterRisesByOneAndHolds : Prop :=
  ∀ (s : State) (c d : Counter),
    (s.counted c).requests.counters.get c =
      (if s.requests.counters.get c < 65535 then s.requests.counters.get c + 1 else s.requests.counters.get c)
    ∧ (d ≠ c → (s.counted c).requests.counters.get d = s.requests.counters.get d)
    ∧ { s.counted c with requests := { (s.counted c).requests with counters := s.requests.counters } } = s

/-- The lines of R9 that discard a good Port U frame: an invalid destination; a kind of the arm cycle or an
unknown kind; a REPLY, query or notice to the own address; a REQUEST to broadcast. Only FORBIDDEN_KIND
changes. -/
def Obligations.ForbiddenFramesAreCounted : Prop :=
  ∀ (s : State) (f : Frame),
    let k := f.kind.toNat
    let other := k = 0x21 ∨ (0x40 ≤ k ∧ k ≤ 0x7F)
    (f.dest = 0#8 ∨ (240 ≤ f.dest.toNat ∧ f.dest.toNat ≤ 253)
      ∨ (k ≠ 0x10 ∧ k ≠ 0x11 ∧ k ≠ 0x20 ∧ ¬ other)
      ∨ (f.dest = s.switch.ownAddr ∧ other)
      ∨ (f.dest = 255#8 ∧ s.switch.ownAddr ≠ 255#8 ∧ k = 0x20)) →
    exec (.forbiddenKind f) s = .next (s.counted .forbiddenKind)

/-- The lines of R9 that offer a good Port U frame downstream, with R10: dropped and counted in UNSET or
without room; queued at the tail with its reply-awaited mark (set for a REQUEST or a query to one station,
clear for a REPLY, a notice or a broadcast); and, while forwarding is idle with nothing queued, examined at
once (R156): sent when it fits in the time to the next start, a frame in reception on Port D being aborted,
otherwise queued with forwarding closed. -/
def Obligations.ForwardedFramesAreQueuedOrDropped : Prop :=
  ∀ (s : State) (f : Frame),
    let k := f.kind.toNat
    let query := k = 0x20 ∨ (0x40 ≤ k ∧ k ≤ 0x5F)
    let forwarded := (query ∨ k = 0x21 ∨ (0x60 ≤ k ∧ k ≤ 0x7F)) ∧ f.dest ≠ s.switch.ownAddr
      ∧ ((1 ≤ f.dest.toNat ∧ f.dest.toNat ≤ 239) ∨ f.dest = 254#8 ∨ (f.dest = 255#8 ∧ k ≠ 0x20))
    forwarded → s.OfferedDown f (decide (query ∧ f.dest ≠ 255#8)) (fun t => exec (.forwardDownstream f) s = .next t)

/-- The upstream transmit arbiter (R13): with no frame waiting an IDLE byte; with one source waiting that
source; with both the one the mark does not name. The frame leaves its queue and the mark names its source. That
the command moves the clock up to the end of the byte or frame on the wire is the model's choice (log 2). -/
def Obligations.ArbiterAlternatesSources : Prop :=
  ∀ (s : State) (f g : Frame) (rest restUp : List Frame),
    let at_ := s.portU.byteEnds
    let later := max s.now at_
    let idle := { s with now := later, portU := { s.portU with tx := none, byteEnds := at_ + 5 } }
    let sent := fun h : Frame =>
      { s with now := later, portU := { s.portU with
          tx := some { frame := h, bytes := wire h, endsAt := at_ + 5 * (wire h).length }
          byteEnds := at_ + 5 * (wire h).length } }
    let reply := { sent f with
      requests := { s.requests with replies := rest }, switch := { s.switch with mark := .replyQueue } }
    let forward := { sent g with switch := { s.switch with up := restUp, mark := .forwardQueue } }
    (s.requests.replies = [] → s.switch.up = [] → exec .upstreamArbitration s = .next idle)
    ∧ (s.requests.replies = f :: rest → s.switch.up = [] ∨ s.switch.mark = .forwardQueue →
        exec .upstreamArbitration s = .next reply)
    ∧ (s.switch.up = g :: restUp → s.requests.replies = [] ∨ s.switch.mark = .replyQueue →
        exec .upstreamArbitration s = .next forward)

/-- The end of the frame on Port D (R14, R147, R148, R158, R159): after CYCLE_SYNC node 1's composed
ARM_SETPOINT goes out; after an ARM_SETPOINT the node's report wait begins; after a forwarded frame its reply
wait begins when one is awaited, and otherwise the next head is examined: none leaves forwarding idle, one that
fits in the time to the next start is sent, one that does not closes forwarding without a head miss. With a start
deferred in that exchange no time remains, and the start is taken (R145); that this very command takes it is the
model's choice (log 11). With a cut waiting for this end the new cycle starts (R161). With another frame waiting for
the transmitter that frame goes out and nothing else follows (the model's choice, log 29). With no frame on the wire
nothing ends (the model's choice, log 3); that the command moves the clock up to the frame's end is one too (log 2). -/
def Obligations.PortDFrameEndGoesOn : Prop :=
  ∀ (s : State) (x : Sending) (l : Line) (k : Station) (dest : Byte) (cs : Pair (List ArmCommand)) (e : DownEntry)
    (rest : List DownEntry) (due : Nat) (next : Frame) (more : List Frame),
    let later := max s.now x.endsAt
    let released := { s with now := later, portD := { s.portD with tx := none } }
    let phase := fun p : Phase => { released with cycle := { s.cycle with phase := p } }
    let waits := fun p : Phase => { released with
      cycle := { s.cycle with phase := p, wait := some { released := later, begun := false } } }
    let setpoint : Frame :=
      { dest := BitVec.ofNat 8 l.record.node1, src := s.switch.ownAddr, kind := 0x31#8
        payload := be16 s.cycle.number
          ++ cs.one.flatMap (fun c => be8 (if c.close then 1 else 0) ++ be16 c.setpoint) }
    let need := 5 * (wire e.frame).length + (if e.awaited then l.record.reportTimeout else 0)
    let free := s.portD.tx = some x ∧ s.portD.waiting = [] ∧ s.mode.line = some l
    let ends := free ∧ s.cycle.cutPending = false
    let unanswered := ends ∧ s.cycle.phase = .window (.sending false dest)
    let head := s.switch.down = e :: rest ∧ s.cycle.nextDue = some due ∧ s.cycle.deferred = false
    (s.portD.tx = none → exec .portDFrameEnd s = .next s)
    ∧ (ends → s.cycle.phase = .sync → s.cycle.composed = some cs →
        exec .portDFrameEnd s = .next ((phase (.setpoint .one)).drives setpoint later))
    ∧ (ends → s.cycle.phase = .setpoint k → exec .portDFrameEnd s = .next (waits (.report k)))
    ∧ (ends → s.cycle.phase = .window (.sending true dest) →
        exec .portDFrameEnd s = .next (waits (.window (.replyWait dest))))
    ∧ (unanswered → s.switch.down = [] → s.cycle.deferred = false →
        exec .portDFrameEnd s = .next (phase (.window .idle)))
    ∧ (unanswered → head → need ≤ due - later → exec .portDFrameEnd s = .next (State.drives
        { released with
          switch := { s.switch with down := rest }
          cycle := { s.cycle with phase := .window (.sending e.awaited e.frame.dest), headMiss := 0 } }
        e.frame later))
    ∧ (unanswered → head → due - later < need → exec .portDFrameEnd s = .next (phase (.window .closed)))
    ∧ (unanswered → s.cycle.deferred = true → s.cycle.nextDue = some due → due ≤ later →
        exec .portDFrameEnd s = .next (released.started l later))
    ∧ (free → s.cycle.cutPending = true → exec .portDFrameEnd s = .next (released.started l later))
    ∧ (s.portD.tx = some x → s.portD.waiting = next :: more → exec .portDFrameEnd s = .next (State.drives
        { s with now := later, portD := { s.portD with tx := none, waiting := more } } next later))

/-! ## Positions and pressures -/

/-- The difference of two travel values (R31): formed modulo 2^24, with 16777216 taken away from 8388608 on.
And the rounding rule (R96): the result is an integer nearest the exact quotient, and of two that are as near
the one farther from zero. -/
def Obligations.TravelDifferenceAndRounding : Prop :=
  (∀ t b : Travel,
    let d := (t.toNat + 16777216 - b.toNat) % 16777216
    travelDiff t b = (if 8388608 ≤ d then (d : Int) - 16777216 else d)
    ∧ -8388608 ≤ travelDiff t b ∧ travelDiff t b ≤ 8388607)
  ∧ ∀ (a : Int) (d : Nat), 0 < d →
    let q := roundDiv a d
    (2 * (a - q * d)).natAbs ≤ d ∧ ((2 * (a - q * d)).natAbs = d → a.natAbs < q.natAbs * d)

/-- The clamps (R112) and the slew limit (R114): B6 is B5 brought within Pmin and Pmax, then to the ceiling
at most; the setpoint is B6 when that is within the slew limit of prev, otherwise prev moved by the slew limit
toward B6. So it differs from prev by at most the slew limit and lies between prev and B6. -/
def Obligations.PressureIsClampedThenSlewed : Prop :=
  ∀ (e : SpeciesEntry) (ceiling slew prev : Nat) (b5 : Int), e.pMin ≤ e.pMax →
    let b6 := clampPressure e ceiling b5
    let x := slewed slew prev b6
    b6 ≤ ceiling ∧ b6 ≤ e.pMax ∧ 0 ≤ b6 ∧ (b5 ≤ e.pMin → e.pMin ≤ ceiling → b6 = e.pMin)
    ∧ (e.pMin ≤ b5 → b5 ≤ e.pMax → b5 ≤ ceiling → b6 = b5)
    ∧ (e.pMax ≤ b5 → e.pMax ≤ ceiling → b6 = e.pMax)
    ∧ (ceiling ≤ max (e.pMin : Int) (min b5 e.pMax) → b6 = ceiling)
    ∧ ((b6 - prev).natAbs ≤ slew → (x : Int) = b6)
    ∧ (slew < (b6 - prev).natAbs → ((x : Int) - prev).natAbs = slew)
    ∧ min (prev : Int) b6 ≤ x ∧ (x : Int) ≤ max (prev : Int) b6

/-- A curve read at x (R101, R103): the value of its first point up to there, of its last point from there
on; at a point that point's value; between two neighbouring points the value of the nearer end moved along the line
between them by the rounded quotient (R96), which lies between theirs. -/
def Obligations.CurvePassesThroughItsPoints : Prop :=
  ∀ (x : Int) (first last : Nat × Nat) (c front back : List (Nat × Nat)) (p q : Nat × Nat),
    c.Pairwise (fun u v => u.1 < v.1) →
    (c.head? = some first → x ≤ first.1 → onCurve x c = first.2)
    ∧ (c.getLast? = some last → last.1 ≤ x → onCurve x c = last.2)
    ∧ (p ∈ c → onCurve p.1 c = p.2)
    ∧ (c = front ++ p :: q :: back → p.1 ≤ x → x ≤ q.1 →
        onCurve x c = p.2 + roundDiv (((q.2 : Int) - p.2) * (x - p.1)) (q.1 - p.1)
        ∧ min (p.2 : Int) q.2 ≤ onCurve x c ∧ onCurve x c ≤ max (p.2 : Int) q.2)

/-- A cycle start composes the channels (R97, R113 to R115, R131). Outside RUN and FINISHING, and for a channel
that is not READY or whose station is not ENGAGED, the command is OPEN with setpoint 0. A READY channel of a
station ENGAGED with a queued record whose bank holds its species is CLOSE, with the setpoint slewed toward B6
from the last one sent and the clamp flag set when B6 differs from B5. B5 and B6 are the value of their inputs, stage
by stage: the position in the log (R99), the diameter there by profile, taper or butt (R100 to R102), the base curve
(R103), the frozen factor (R104, R105), the feed factor (R106), the entry and tail factors and the smallest of those
that apply (R107 to R109), the dwell reduction (R110), the trim (R111) and the clamps (R112). -/
def Obligations.CompositionFollowsTheStations : Prop :=
  ∀ (s : State) (k : Station) (i id : Nat) (c : Channel) (l : Line) (b5 b6 : Int),
    let opened := { c with previous := c.lastSent, lastSent := 0, closedCycles := 0, deviations := 0, clamp := false }
    let x := slewed l.record.slew c.lastSent b6
    (s.mode.mode.works = false ∨ c.state ≠ .ready ∨ (∀ j, s.arms.stations.get k ≠ .engaged j) →
      composeChannel s k i c = opened ∧ commandOf s k i c = { close := false, setpoint := 0 })
    ∧ (s.mode.mode.works = true → c.state = .ready → s.arms.stations.get k = .engaged id →
        s.mode.line = some l → s.target l k i id = some (b5, b6) →
          composeChannel s k i c =
            { c with previous := c.lastSent, lastSent := x
                     closedCycles := if c.closedCycles < 255 then c.closedCycles + 1 else c.closedCycles
                     clamp := decide (b6 ≠ b5) }
          ∧ commandOf s k i c = { close := true, setpoint := x })
    ∧ (∀ r e, s.record? id = some r → (s.tables.bank r.bank).entry r.species = some e →
        s.target l k i id ≠ none)
    ∧ (∀ (r : LogRecord) (e : SpeciesEntry) (front back : List LogRecord),
        s.tracker.queue = front ++ r :: back → (∀ y ∈ front, y.id ≠ id) → r.id = id →
        (s.tables.bank r.bank).entry r.species = some e →
        let raw := roundDiv ((travelDiff s.travel.t r.b - l.counts.contact.get k) * l.record.pitch) 1000
        let p := match r.length with
          | some n => min (max 0 raw) n.mm
          | none => max 0 raw
        let d := match r.profile, r.length with
          | _ :: _, _ => onCurve p r.profile
          | [], some n => r.butt + roundDiv (((r.top : Int) - r.butt) * p) n.mm.toNat
          | [], none => (r.butt : Int)
        let base := onCurve d (e.points.take e.n)
        let frozen := match r.temperature with
          | none => (e.frozen : Int)
          | some t =>
            if e.tThaw ≤ t then 100 else if t ≤ e.tDeep then (e.frozen : Int)
            else 100 + roundDiv (((e.frozen : Int) - 100) * (e.tThaw - t)) (e.tThaw - e.tDeep).toNat
        let feed := max 800 (min 1250 (1000 + roundDiv (e.slope * ((s.travel.feed : Int) - e.vRef)) 100))
        let b3 := roundDiv (roundDiv (base * frozen) 100 * feed) 1000
        let entry := e.entryStart + roundDiv ((100 - (e.entryStart : Int)) * p) e.entryLength
        let tail := fun n : LogLength => e.tailEnd + roundDiv ((100 - (e.tailEnd : Int)) * (n.mm - p)) e.tailLength
        let enters := r.joined = false ∧ 0 < e.entryLength ∧ p < e.entryLength
        let leaves := fun n : LogLength => 0 < e.tailLength ∧ n.mm - e.tailLength < p
          ∧ (∀ y ∈ back.head?, y.joined = false)
        let g := match r.length with
          | some n => if leaves n then (if enters then min entry (tail n) else tail n)
              else if enters then entry else 100
          | none => if enters then entry else 100
        let b4 := roundDiv (b3 * g) 100
        let trims := (s.tables.bank r.bank).trims
        let trim := match trims with
          | some a => a.getD (match k with | .one => i | .two => 5 + i) 0
          | none => 0
        let b := (if s.travel.dwell = true then roundDiv (b4 * l.record.dwellPercent) 100 else b4) + trim
        s.target l k i id = some (b,
          min (if b < e.pMin then (e.pMin : Int) else if e.pMax < b then (e.pMax : Int) else b) l.record.ceiling))

/-! ## Log records -/

/-- A LOG_SCAN that makes no record (R50, R53): outside RUN, with a payload of a wrong length, with the tag of
a queued record, with a butt not upstream of the newest record's, or late at eye 1, it is counted in
SCAN_REJECTED; with none of these and 16 records queued, in SCAN_OVERFLOW. Its copy is offered downstream when the line
record says so (R9, R10), and nothing else changes. Without a line record it is counted in SCAN_REJECTED and no copy is
offered. -/
def Obligations.LogScanDiscarded : Prop :=
  ∀ (s : State) (dest src : Byte) (p : List Byte) (l : Line),
    let formed := 15 ≤ p.length ∧ p.length = 15 + 4 * rd8 p 14
    let b := s.travel.t - BitVec.ofInt 24 (roundDiv ((min (rd16 p 12) 30000 : Nat) * 1000) l.record.pitch)
    let pos := travelDiff s.travel.t b
    let duplicate := ∃ r ∈ s.tracker.queue, r.tag = some (p.getD 0 0#8)
    let unordered := ∃ r, s.tracker.queue.getLast? = some r ∧ travelDiff s.travel.t r.b ≤ pos
    let late := l.counts.eye.one - l.counts.tolerance ≤ pos
    let answers := fun t : State => exec (.logScan dest src p) s = .next t
    let leaves := fun u : State => u.CopyOffered l (Frame.mk dest src 0x10#8 p) answers
    dest ≠ 0#8 → ¬ (240 ≤ dest.toNat ∧ dest.toNat ≤ 253) →
      (s.mode.line = some l → s.mode.mode ≠ .run ∨ ¬ formed ∨ duplicate ∨ unordered ∨ late →
        leaves (s.counted .scanRejected))
      ∧ (s.mode.line = some l → s.mode.mode = .run → formed → ¬ duplicate → ¬ unordered → ¬ late →
          16 ≤ s.tracker.queue.length → leaves (s.counted .scanOverflow))
      ∧ (s.mode.line = none → answers (s.counted .scanRejected))

/-- A LOG_SCAN that becomes a record (R51, R52, R54): appended at the end of the queue with its fields in range,
its effective species, its temperature, its profile and its butt count, bound to the ACTIVE bank, whose count rises by
one. At each station it is tracked and not confirmed with its marks clear, and at each in use its window and contact
positions are those of T − B (R57, R58), which are SHORT under a line record that meets R23. Its copy is
offered downstream when the line record says so (R9, R10). Nothing else changes. -/
def Obligations.LogScanAppendsRecord : Prop :=
  ∀ (s : State) (dest src : Byte) (p : List Byte) (l : Line) (bank : BankId),
    let b := s.travel.t - BitVec.ofInt 24 (roundDiv ((min (rd16 p 12) 30000 : Nat) * 1000) l.record.pitch)
    let pos := travelDiff s.travel.t b
    let mm := max 1000 (min l.record.maxLength (rd16 p 7))
    let diameter := fun d : Nat => max 40 (min 1200 d)
    let confidence := min (rd8 p 2) 100
    let species := (p.getD 1 0#8).toNat
    let points := (List.range (rd8 p 14)).map (fun j => (rd16 p (15 + 4 * j), rd16 p (17 + 4 * j)))
    let x := s.tables.bank bank
    dest ≠ 0#8 → ¬ (240 ≤ dest.toNat ∧ dest.toNat ≤ 253) →
    s.mode.line = some l → 2000 ≤ l.record.maxLength → s.mode.mode = .run →
    s.tables.mark = some bank → 15 ≤ p.length → p.length = 15 + 4 * rd8 p 14 →
    (∀ r ∈ s.tracker.queue, r.tag ≠ some (p.getD 0 0#8)) →
    (∀ r, s.tracker.queue.getLast? = some r → pos < travelDiff s.travel.t r.b) →
    pos < l.counts.eye.one - l.counts.tolerance → s.tracker.queue.length < 16 →
    (∀ r ∈ s.tracker.queue, r.id < s.tracker.nextId) →
      ∃ r : LogRecord,
        State.CopyOffered
          { s with
            tracker := { s.tracker with queue := s.tracker.queue ++ [r], nextId := s.tracker.nextId + 1 }
            tables := s.tables.setBank bank { x with refs := x.refs + 1 } }
          l (Frame.mk dest src 0x10#8 p) (fun t => exec (.logScan dest src p) s = .next t)
        ∧ r.id = s.tracker.nextId ∧ r.origin = .scanned ∧ r.tag = some (p.getD 0 0#8)
        ∧ r.scanned = p.getD 1 0#8 ∧ r.confidence = confidence ∧ r.b = b ∧ r.bank = bank
        ∧ r.species = (if species ≤ 31 ∧ (x.entry species).isSome = true ∧ l.record.confidence ≤ confidence
            then species else 0)
        ∧ r.butt = diameter (rd16 p 3) ∧ r.top = diameter (rd16 p 5)
        ∧ r.length = some { counts := roundDiv ((mm : Int) * 1000) l.record.pitch, mm := mm }
        ∧ (rd8 p 9 ≠ 0 → r.temperature = some (max (-500) (min 500 (rdS16 p 10))))
        ∧ (rd8 p 9 = 0 → r.temperature = s.mode.ambient)
        ∧ (2 ≤ rd8 p 14 → rd8 p 14 ≤ 8 → points.Pairwise (fun u v => u.1 < v.1) → (∀ q ∈ points, q.1 ≤ mm) →
            r.profile = points.map (fun q => (q.1, diameter q.2)))
        ∧ (rd8 p 14 = 0 ∨ rd8 p 14 = 1 ∨ 8 < rd8 p 14 ∨ ¬ points.Pairwise (fun u v => u.1 < v.1)
            ∨ (∃ q ∈ points, mm < q.1) → r.profile = [])
        ∧ r.joinForced = false ∧ (s.tracker.queue = [] → r.joined = false)
        ∧ (∀ y, s.tracker.queue.getLast? = some y → ∀ lg, y.length = some lg →
            r.joined = decide (travelDiff b (y.b + BitVec.ofInt 24 lg.counts) < l.counts.minGap))
        ∧ (∀ y, s.tracker.queue.getLast? = some y → y.length = none → r.joined = false)
        ∧ (∀ k, (r.at k).confirmed = .no ∧ (r.at k).tracked = true ∧ (r.at k).measured = false
            ∧ (r.at k).lostPending = false ∧ (r.at k).passedUnseen = false)
        ∧ (0 ≤ l.counts.tolerance → ∀ k, l.inUse k = true → (r.at k).standsAt l.counts k r.length pos)
        ∧ (firstFault (lineConditions l.record) = none → l.counts = lineCounts l.record → ∀ k, l.inUse k = true →
            (r.at k).window = .short ∧ (r.at k).contact = .short)

/-- A LOG_VOID (R55). With a payload that is not one byte, or with a tag
that no record unconfirmed at station 1 holds, it is counted in VOID_UNMATCHED and nothing else changes. Such a
record is removed, counted in no counter (R72): its bank's count falls by one, a RETIRING bank whose count reaches 0
becomes IDLE (R90), its successor's joined flag is decided anew (R69), a station in LOCKOUT whose contact line is then
clear and whose rotor is at speed goes IDLE (R127), and FINISHING ends with the last record (R19). No other record
changes. The copy is then offered downstream when the line record says so (R9, R10). Without a line record, where no
record is queued, the frame is counted in VOID_UNMATCHED and no copy is offered. That a station ENGAGED with the record
would fall IDLE is the model's choice (log 31). -/
def Obligations.LogVoidRemovesUnconfirmed : Prop :=
  ∀ (s : State) (dest src tag : Byte) (p : List Byte) (l : Line) (front back : List LogRecord) (r : LogRecord),
    let answers := fun t : State => exec (.logVoid dest src p) s = .next t
    let leaves := fun u : State => u.CopyOffered l (Frame.mk dest src 0x11#8 p) answers
    dest ≠ 0#8 → ¬ (240 ≤ dest.toNat ∧ dest.toNat ≤ 253) →
      (s.mode.line = some l → (∀ y ∈ s.tracker.queue, ∀ g, p = [g] → y.tag = some g → y.at1.confirmed ≠ .no) →
        leaves (s.counted .voidUnmatched))
      ∧ (s.mode.line = some l → s.tracker.queue = front ++ r :: back → (s.tracker.queue.map LogRecord.id).Nodup →
          r.tag = some tag → r.at1.confirmed = .no → (∀ y ∈ front, y.tag ≠ some tag) → p = [tag] →
            leaves (s.without r (front ++ rejoinedNext l.counts.minGap front.getLast? back)))
      ∧ (s.mode.line = none → answers (s.counted .voidUnmatched))

/-! ## Requests -/

/-- What Request Service does itself (R165, R166, R170). A request of any code that finds all eight reply slots
taken (the row REQUEST_OVERFLOW, and every other request row) is discarded, REPLY_OVERFLOW rises by one and
nothing else changes. With a slot free: BAD_FORM for a payload shorter than two bytes, with 0 for each byte
missing, and for a body of a length its code does not have; UNKNOWN_REQUEST for code 0 and 15..255. The body of
the reply is empty. -/
def Obligations.RequestsDiscardedOrMalformed : Prop :=
  (∀ (s : State) (c : Instr), isRequestRow c = true → ¬ s.slotFree → exec c s = .next (s.counted .replyOverflow))
  ∧ (∀ (s : State) (src : Byte) (p : List Byte), ¬ s.slotFree →
      exec (.requestOverflow src p) s = .next (s.counted .replyOverflow))
  ∧ ∀ (s : State) (src num code : Byte) (body : List Byte), s.slotFree →
    exec (.badForm src []) s = .next (s.answered s src 0#8 0#8 4#8 0#8 [])
    ∧ exec (.badForm src [num]) s = .next (s.answered s src num 0#8 4#8 0#8 [])
    ∧ (∀ n, bodyLength? code.toNat = some n → body.length ≠ n →
        exec (.badForm src (num :: code :: body)) s = .next (s.answered s src num code 4#8 0#8 []))
    ∧ (code = 0#8 ∨ 15 ≤ code.toNat →
        exec (.unknownRequest src num code body) s = .next (s.answered s src num code 5#8 0#8 []))

/-- Requests received as frames on Port U for the own address are executed as the rows say (R9, R165, R171): the
bytes of each code's body are the row's operands, an argument or option that is none of those named goes to the row
that refuses it, and so do a body of another length and an unknown code. The frame is handed over by FORWARD_DOWNSTREAM,
which stands for the routing of any frame (the model's choice, log 27). -/
def Obligations.RequestFramesReachTheirRows : Prop :=
  ∀ (s : State) (src num x y : Byte) (image : List Byte),
    let frame := fun code body => exec (.forwardDownstream (Frame.mk s.switch.ownAddr src 0x20#8 (num :: code :: body))) s
    s.switch.ownAddr ≠ 0#8 → ¬ (240 ≤ s.switch.ownAddr.toNat ∧ s.switch.ownAddr.toNat ≤ 253) →
      (image.length = 46 → frame 1#8 image = exec (.lineLoad src num image) s)
      ∧ frame 2#8 [1#8] = exec (.modeSetRun src num) s
      ∧ frame 2#8 [2#8] = exec (.modeSetFinish src num) s
      ∧ frame 2#8 [3#8] = exec (.modeSetStop src num) s
      ∧ frame 2#8 [4#8] = exec (.modeSetClear src num) s
      ∧ (x = 0#8 ∨ 5 ≤ x.toNat → frame 2#8 [x] = exec (.modeSetBadArgument src num x) s)
      ∧ frame 3#8 [x, y] = exec (.ambientSet src num (x ++ y)) s
      ∧ frame 4#8 [1#8] = exec (.tableOpenClear src num) s
      ∧ frame 4#8 [2#8] = exec (.tableOpenCopy src num) s
      ∧ (x = 0#8 ∨ 3 ≤ x.toNat → frame 4#8 [x] = exec (.tableOpenBadArgument src num x) s)
      ∧ (image.length = 46 → frame 5#8 image = exec (.tableEntry src num image) s)
      ∧ (image.length = 20 → frame 6#8 image = exec (.tableTrim src num image) s)
      ∧ frame 7#8 [] = exec (.tableClose src num) s
      ∧ frame 8#8 [] = exec (.tableSwap src num) s
      ∧ frame 9#8 [x, y] = exec (.tableRead src num x y) s
      ∧ frame 10#8 [x] = exec (.armRestore src num x) s
      ∧ frame 11#8 [] = exec (.statusRead src num) s
      ∧ frame 12#8 [] = exec (.logList src num) s
      ∧ frame 13#8 [0#8] = exec (.countersRead src num) s
      ∧ frame 13#8 [1#8] = exec (.countersReadClear src num) s
      ∧ (2 ≤ x.toNat → frame 13#8 [x] = exec (.countersReadBadOption src num x) s)
      ∧ frame 14#8 [] = exec (.lineReset src num) s
      ∧ (∀ n, bodyLength? x.toNat = some n → image.length ≠ n →
          frame x image = exec (.badForm src (num :: x :: image)) s)
      ∧ (x = 0#8 ∨ 15 ≤ x.toNat → frame x image = exec (.unknownRequest src num x image) s)

/-- LINE_LOAD refused (R24): in RUN, FINISHING and TRIPPED with NOT_NOW, "wrong mode"; in UNSET and STANDBY, with
a field that fails its condition of R23, with BAD_VALUE and the number of the first such field. Nothing else
changes. The conditions are read off the image's bytes, and are the model's own list of them. -/
def Obligations.LineLoadRefused : Prop :=
  ∀ (s : State) (src num : Byte) (image : List Byte) (n : Nat), s.slotFree → image.length = 46 →
    (s.mode.mode = .run ∨ s.mode.mode = .finishing ∨ s.mode.mode = .tripped →
      exec (.lineLoad src num image) s = .next (s.answered s src num 1#8 2#8 1#8 []))
    ∧ (s.mode.mode = .unset ∨ s.mode.mode = .standby → FirstFault (LineFieldOk image) n →
          exec (.lineLoad src num image) s = .next (s.answered s src num 1#8 3#8 (BitVec.ofNat 8 n) []))
    ∧ (∀ m, (m, false) ∈ lineConditions (lineImage image) ↔ ¬ LineFieldOk image m)

/-- LINE_LOAD accepted (R24 to R27, R164), with every condition of R23 met: the record is in force with its
counts, the mode is STANDBY or, with the trip input asserted or the encoder failed (DEDUCED for the encoder, log 15),
TRIPPED; the own address is field 1, the reply carries the one before; node counts, illegal-transition count and speed
window are cleared; a channel the record does not enable is DISABLED and one it enables is READY or stays ISOLATED; the
ambient temperature, the trip input, the bank images and the forward queues stay; an eye dark for longer than the new
limit enters FAULT, and the Log Tracker's marks are the eyes' states (R43, R65). With no frame on the Port D wire a
cycle starts at once with every channel OPEN and the period of the record, its CYCLE_SYNC under the new address
(DEDUCED, log 10). In UNSET that is a first start and no cut: a frame in reception is aborted and counted once, whatever
byte waits behind the command (R3, R4, R14). In STANDBY it cuts the cycle: a frame in reception is aborted and counted
unless it ends now (R161, R162); that the byte which then ends it is the one directly behind the command is the model's
choice (log 32). With a frame on the wire, which only STANDBY has, that frame is sent to its end and the start waits for
it (R161). -/
def Obligations.LineLoadAccepted : Prop :=
  ∀ (s : State) (src num : Byte) (image : List Byte),
    let r := lineImage image
    let l : Line := { record := r, counts := lineCounts r }
    s.slotFree → s.ModeOk → s.TablesOk → image.length = 46 → (∀ n, LineFieldOk image n) →
    s.mode.mode = .unset ∨ s.mode.mode = .standby →
    s.arms.channels.one.length = 5 → s.arms.channels.two.length = 5 →
      ∃ t : State,
        exec (.lineLoad src num image) s = .next (s.answered t src num 1#8 0#8 0#8 [])
        ∧ t.requests.replies = s.requests.replies ∧ t.requests.inFlight = s.requests.inFlight
        ∧ t.mode.line = some l ∧ t.mode.ambient = s.mode.ambient
        ∧ (s.inputs.trip = true → t.mode.mode = .tripped ∧ t.mode.cause = .tripInput)
        ∧ (s.inputs.trip = false → s.travel.failed = true → t.mode.mode = .tripped ∧ t.mode.cause = .encoder)
        ∧ (s.inputs.trip = false → s.travel.failed = false → t.mode.mode = .standby ∧ t.mode.cause = .none)
        ∧ t.switch = { s.switch with ownAddr := BitVec.ofNat 8 r.address }
        ∧ t.cycle.nodes = { one := Node.reset, two := Node.reset } ∧ t.cycle.wait = none
        ∧ (s.portD.tx = none → t.cycle.number = (s.cycle.number + 1) % 65536 ∧ t.cycle.phase = .sync
            ∧ t.cycle.nextDue = some (s.now + r.period * 1000)
            ∧ t.portD.tx.map Sending.frame =
                some (Frame.mk 255#8 (BitVec.ofNat 8 r.address) 0x30#8 (be16 ((s.cycle.number + 1) % 65536)))
            ∧ (s.mode.mode = .unset → t.portD.rx.phase = .hunt ∧ t.portD.cut = s.portD.cut
                ∧ t.requests.counters.get .framesAborted =
                    (if s.portD.rx.phase = .hunt then s else s.counted .framesAborted).requests.counters.get .framesAborted)
            ∧ (s.mode.mode = .standby → s.CutsReception t)
            ∧ t.cycle.composed = some { one := List.replicate 5 { close := false, setpoint := 0 }
                                        two := List.replicate 5 { close := false, setpoint := 0 } })
        ∧ (s.portD.tx ≠ none → t.portD = s.portD ∧ t.cycle.cutPending = true ∧ t.cycle.composed = none
            ∧ t.cycle.number = s.cycle.number ∧ t.requests.counters = s.requests.counters)
        ∧ (∀ c, c ≠ .framesAborted → t.requests.counters.get c = s.requests.counters.get c)
        ∧ t.arms.stations = { one := .idle, two := .idle }
        ∧ (∀ k i, i < 5 → ∃ c d, (s.arms.channels.get k)[i]? = some c ∧ (t.arms.channels.get k)[i]? = some d
            ∧ (s.portD.tx = none ∨ d.state = .disabled ∨ c.state = .disabled → d.lastSent = 0)
            ∧ (s.portD.tx = none → d.deviations = 0 ∧ d.closedCycles = 0 ∧ d.clamp = false) ∧ d.position = none
            ∧ d.state = (if r.armEnable.getLsbD (armBit k i) = true ∧ (k = .one ∨ r.stations = 2)
                then (if c.state = .disabled then .ready else c.state) else .disabled))
        ∧ t.travel = { s.travel with
            illegal := 0, net := 0, windowStart := s.now
            dwell := decide (r.dwellTime * 1000 ≤ s.now - s.travel.stillSince) }
        ∧ t.inputs.trip = s.inputs.trip ∧ t.inputs.rotors = s.inputs.rotors
        ∧ (∀ k, ((s.inputs.eyes.get k).blockedAt (some l) s.travel.t →
              t.inputs.eyes.get k = { s.inputs.eyes.get k with fault := true })
            ∧ (¬ (s.inputs.eyes.get k).blockedAt (some l) s.travel.t → t.inputs.eyes.get k = s.inputs.eyes.get k)
            ∧ t.tracker.faulted.get k = (t.inputs.eyes.get k).fault)
        ∧ t.tables.a = s.tables.a ∧ t.tables.b = s.tables.b ∧ t.tables.mark = s.tables.mark
        ∧ t.tracker.queue = [] ∧ t.portU = s.portU ∧ t.now = s.now ∧ t.pending = s.pending

/-- MODE_SET RUN (R17, R118): from STANDBY with a bank ACTIVE the mode becomes RUN and each station in use whose
rotor is under speed is put in LOCKOUT; with no bank ACTIVE it is refused NOT_NOW, "no active bank". FINISH (R19) in
RUN leads to FINISHING with records queued and through it to STANDBY with none, where both stations, each of which may
be in LOCKOUT, are set IDLE and pending restores completed (R129, R119). STOP (R22) in RUN and FINISHING leads to
STANDBY with the queue flushed, both bank counts 0, a RETIRING bank IDLE, both stations IDLE and pending restores
completed, no counter changed. -/
def Obligations.ModeSetRunFinishStop : Prop :=
  (∀ (s : State) (src num : Byte) (l : Line),
     let enters := fun (k : Station) (used : Bool) =>
       if used && (s.inputs.rotors.get k).under then StationState.lockout else s.arms.stations.get k
     s.slotFree → s.mode.mode = .standby → s.mode.line = some l →
       (∀ bank, s.tables.mark = some bank → exec (.modeSetRun src num) s = .next
         (s.answered
           { s with
             mode := { s.mode with mode := .run }
             arms := { s.arms with stations :=
               { one := enters .one true, two := enters .two (decide (l.record.stations = 2)) } } }
           src num 2#8 0#8 0#8 [2#8]))
       ∧ (s.tables.mark = none →
           exec (.modeSetRun src num) s = .next (s.answered s src num 2#8 2#8 2#8 [1#8])))
  ∧ (∀ (s : State) (src num : Byte),
       let freed := fun x : Bank => { x with refs := 0, state := if x.state = .retiring then .idle else x.state }
       let restored := fun c : Channel =>
         if c.pendingRestore then
           { c with state := .ready, pendingRestore := false, lastSent := 0, previous := 0
                    closedCycles := 0, deviations := 0 } else c
       let restores := fun k => if s.arms.stations.get k = .idle then s.arms.channels.get k
         else (s.arms.channels.get k).map restored
       let idled : ArmController :=
         { stations := { one := .idle, two := .idle }, channels := { one := restores .one, two := restores .two } }
       s.slotFree →
         (s.mode.mode = .run → s.tracker.queue ≠ [] → exec (.modeSetFinish src num) s = .next
           (s.answered { s with mode := { s.mode with mode := .finishing } } src num 2#8 0#8 0#8 [3#8]))
         ∧ (s.mode.mode = .run → s.tracker.queue = [] → exec (.modeSetFinish src num) s = .next
             (s.answered { s with mode := { s.mode with mode := .standby }, arms := idled } src num 2#8 0#8 0#8 [1#8]))
         ∧ (s.mode.mode = .run ∨ s.mode.mode = .finishing → exec (.modeSetStop src num) s = .next
             (s.answered
               { s with
                 mode := { s.mode with mode := .standby }
                 tracker := { s.tracker with queue := [] }
                 tables := { s.tables with a := freed s.tables.a, b := freed s.tables.b }
                 arms := idled }
               src num 2#8 0#8 0#8 [1#8])))

/-- MODE_SET CLEAR in TRIPPED (R18): refused NOT_NOW, "trip input asserted", while the trip input is asserted;
else NOT_NOW, "encoder failed", with the encoder failed and an illegal transition since the failure; else the
failed state is cleared and the mode is STANDBY with cause NONE. The log queue is empty after it. -/
def Obligations.ModeSetClearLeavesTripped : Prop :=
  ∀ (s : State) (src num : Byte), s.slotFree → s.ModeOk → s.mode.mode = .tripped →
    s.tracker.queue = []
    ∧ (s.inputs.trip = true →
        exec (.modeSetClear src num) s = .next (s.answered s src num 2#8 2#8 3#8 [4#8]))
    ∧ (s.inputs.trip = false → s.travel.failed = true → s.travel.disturbed = true →
        exec (.modeSetClear src num) s = .next (s.answered s src num 2#8 2#8 4#8 [4#8]))
    ∧ (s.inputs.trip = false → s.travel.failed = true → s.travel.disturbed = false →
        exec (.modeSetClear src num) s = .next
          (s.answered
            { s with
              mode := { s.mode with mode := .standby, cause := .none }
              travel := { s.travel with failed := false, disturbed := false, illegal := 0 } }
            src num 2#8 0#8 0#8 [1#8]))
    ∧ (s.inputs.trip = false → s.travel.failed = false →
        exec (.modeSetClear src num) s = .next
          (s.answered { s with mode := { s.mode with mode := .standby, cause := .none } }
            src num 2#8 0#8 0#8 [1#8]))

/-- A MODE_SET refused (R17): in a mode its argument does not take, NOT_NOW, "wrong mode"; with an argument that
is none of the four, BAD_VALUE with detail 1. The reply carries the mode and nothing else changes. -/
def Obligations.ModeSetRefused : Prop :=
  ∀ (s : State) (src num arg : Byte), s.slotFree →
    let wrong := s.answered s src num 2#8 2#8 1#8 [BitVec.ofNat 8 s.mode.mode.code]
    (s.mode.mode ≠ .standby → exec (.modeSetRun src num) s = .next wrong)
    ∧ (s.mode.mode ≠ .run → exec (.modeSetFinish src num) s = .next wrong)
    ∧ (s.mode.mode ≠ .run → s.mode.mode ≠ .finishing → exec (.modeSetStop src num) s = .next wrong)
    ∧ (s.mode.mode ≠ .tripped → exec (.modeSetClear src num) s = .next wrong)
    ∧ (arg = 0#8 ∨ 5 ≤ arg.toNat → exec (.modeSetBadArgument src num arg) s = .next
        (s.answered s src num 2#8 3#8 1#8 [BitVec.ofNat 8 s.mode.mode.code]))

/-- AMBIENT_SET (R28): the value brought into −500..500 is stored and carried by the reply. -/
def Obligations.AmbientSetStoresInRange : Prop :=
  ∀ (s : State) (src num : Byte) (v : BitVec 16), s.slotFree →
    let z := max (-500) (min 500 v.toInt)
    exec (.ambientSet src num v) s = .next
      (s.answered { s with mode := { s.mode with ambient := some z } } src num 3#8 0#8 0#8 (beS16 z))

/-! ## Species tables -/

/-- TABLE_OPEN (R75, R80 to R82, R169), the target being the bank the mark does not name, or bank A: BAD_VALUE 1
for another argument; BUSY while the target is COPYING; NOT_NOW, "bank retiring", while RETIRING; clear makes
the target LOADING with nothing loaded; copy without an ACTIVE bank is refused, and with one makes the target
COPYING with nothing loaded, starts the copy engine and reserves the reply's slot. -/
def Obligations.TableOpenTakesTarget : Prop :=
  ∀ (s : State) (src num arg : Byte) (k : BankId),
    let x := s.tables.bank k
    let emptied := fun st : BankState =>
      s.tables.setBank k { entries := List.replicate 32 none, trims := none, state := st, refs := x.refs }
    let refused := fun o d : Byte => Host.Outcome.next (s.answered s src num 4#8 o d [])
    let opens := [exec (.tableOpenClear src num) s, exec (.tableOpenCopy src num) s]
    s.slotFree → (s.tables.mark = some k.other ∨ s.tables.mark = none ∧ k = .a) →
      (arg = 0#8 ∨ 3 ≤ arg.toNat → exec (.tableOpenBadArgument src num arg) s = refused 3#8 1#8)
      ∧ (x.state = .copying → ∀ o ∈ opens, o = refused 1#8 0#8)
      ∧ (x.state = .retiring → ∀ o ∈ opens, o = refused 2#8 5#8)
      ∧ (x.state ≠ .copying → x.state ≠ .retiring →
          exec (.tableOpenClear src num) s = .next
            (s.answered { s with tables := emptied .loading } src num 4#8 0#8 0#8 [BitVec.ofNat 8 k.code, 0#8])
          ∧ (s.tables.mark = none → exec (.tableOpenCopy src num) s = refused 2#8 2#8)
          ∧ (s.tables.mark = some k.other → exec (.tableOpenCopy src num) s = .next
              { s with
                tables := { emptied .copying with
                  copy := some { source := k.other, dest := k, start := s.now, item := 0 } }
                requests := { s.requests with inFlight := some { num := num, dest := src } } }))

/-- The copy engine (R83, R84): the item due is moved from source to destination with its loaded flag; after an entry
the next item is due; after the trim table the destination is LOADING and DONE is composed into the reserved
slot. With no copy nothing moves (the model's choice, log 3); that the command moves the clock up to the item's
moment is one too (log 2). -/
def Obligations.CopyItemMovesInOrder : Prop :=
  ∀ (s : State) (c : CopyEngine) (q : InFlight),
    let src := s.tables.bank c.source
    let dst := s.tables.bank c.dest
    let later := max s.now (c.start + 40 * (c.item + 1))
    (s.tables.copy = none → exec .copyItem s = .next s)
    ∧ (s.tables.copy = some c → c.item < 32 → exec .copyItem s = .next
        { s with
          now := later
          tables := { s.tables.setBank c.dest { dst with entries := dst.entries.set c.item (src.entry c.item) } with
            copy := some { c with item := c.item + 1 } } })
    ∧ (s.tables.copy = some c → 32 ≤ c.item → s.requests.inFlight = some q → exec .copyItem s = .next
        { s with
          now := later
          tables := { s.tables.setBank c.dest { dst with trims := src.trims, state := .loading } with copy := none }
          requests := { s.requests with
            inFlight := none
            replies := s.requests.replies ++ [Frame.mk q.dest s.switch.ownAddr 0x21#8
              [q.num, 4#8, 0#8, 0#8, BitVec.ofNat 8 c.dest.code, BitVec.ofNat 8 dst.loadedCount]] } })

/-- TABLE_ENTRY and TABLE_TRIM (R76 to R78, R85): on a LOADING target a valid body is written and an invalid one
refused BAD_VALUE with its first field at fault; a COPYING target answers BUSY, any other NOT_NOW, "bank not
loading", with nothing written. The conditions are read off the image's bytes. -/
def Obligations.TableWritesFollowTargetState : Prop :=
  ∀ (s : State) (src num : Byte) (entry trims : List Byte) (k : BankId) (n : Nat),
    let x := s.tables.bank k
    let written : Bank := { x with entries := x.entries.set (rd8 entry 0) (some (entryImage entry)) }
    let trimmed : Bank := { x with trims := some ((List.range 10).map (fun i => rdS16 trims (2 * i))) }
    let refused := fun code o d : Byte => Host.Outcome.next (s.answered s src num code o d [])
    let inRange := fun m => -800 ≤ rdS16 trims (2 * m - 2) ∧ rdS16 trims (2 * m - 2) ≤ 800
    s.slotFree → (s.tables.mark = some k.other ∨ s.tables.mark = none ∧ k = .a) →
    entry.length = 46 → trims.length = 20 →
      (x.state = .loading →
        ((∀ m, EntryFieldOk entry m) → exec (.tableEntry src num entry) s = .next
          (s.answered { s with tables := s.tables.setBank k written } src num 5#8 0#8 0#8
            [BitVec.ofNat 8 k.code, entry.getD 0 0#8, BitVec.ofNat 8 written.loadedCount]))
        ∧ (FirstFault (EntryFieldOk entry) n →
            exec (.tableEntry src num entry) s = refused 5#8 3#8 (BitVec.ofNat 8 n))
        ∧ ((∀ m, 1 ≤ m → m ≤ 10 → inRange m) →
            exec (.tableTrim src num trims) s = .next
              (s.answered { s with tables := s.tables.setBank k trimmed } src num 6#8 0#8 0#8
                [BitVec.ofNat 8 k.code]))
        ∧ (1 ≤ n → n ≤ 10 → ¬ inRange n → (∀ m, 1 ≤ m → m < n → inRange m) →
            exec (.tableTrim src num trims) s = refused 6#8 3#8 (BitVec.ofNat 8 n)))
      ∧ (x.state = .copying → exec (.tableEntry src num entry) s = refused 5#8 1#8 0#8
          ∧ exec (.tableTrim src num trims) s = refused 6#8 1#8 0#8)
      ∧ (x.state = .idle ∨ x.state = .ready ∨ x.state = .retiring →
          exec (.tableEntry src num entry) s = refused 5#8 2#8 6#8
          ∧ exec (.tableTrim src num trims) s = refused 6#8 2#8 6#8)

/-- TABLE_CLOSE (R86): a LOADING target with entry 0 becomes READY; without it NOT_NOW, "entry 0 missing"; a COPYING
target answers BUSY, any other NOT_NOW, "bank not loading". Each reply names the target and its loaded count.
TABLE_SWAP (R87): the READY bank becomes ACTIVE and the mark names it; a bank that was ACTIVE becomes RETIRING
with records bound to it and IDLE without. With no READY bank, NOT_NOW, "no ready bank". No record and no image
changes. -/
def Obligations.TableCloseAndSwap : Prop :=
  (∀ (s : State) (src num : Byte) (k : BankId),
     let x := s.tables.bank k
     let closes := fun (t : State) (o d : Byte) => exec (.tableClose src num) s = .next
       (s.answered t src num 7#8 o d [BitVec.ofNat 8 k.code, BitVec.ofNat 8 (x.entries.countP Option.isSome)])
     s.slotFree → (s.tables.mark = some k.other ∨ s.tables.mark = none ∧ k = .a) →
       (x.state = .loading → x.entry 0 ≠ none →
         closes { s with tables := s.tables.setBank k { x with state := .ready } } 0#8 0#8)
       ∧ (x.state = .loading → x.entry 0 = none → closes s 2#8 7#8)
       ∧ (x.state = .copying → closes s 1#8 0#8)
       ∧ (x.state = .idle ∨ x.state = .ready ∨ x.state = .retiring → closes s 2#8 6#8))
  ∧ (∀ (s : State) (src num : Byte) (k : BankId),
       let ready := s.tables.bank k
       let old := s.tables.bank k.other
       let left : BankState := if old.state = .active then (if old.refs = 0 then .idle else .retiring) else old.state
       s.slotFree →
         (ready.state = .ready → old.state ≠ .ready → exec (.tableSwap src num) s = .next
           (s.answered
             { s with tables := { (s.tables.setBank k { ready with state := .active }).setBank k.other
                 { old with state := left } with mark := some k } }
             src num 8#8 0#8 0#8
             [BitVec.ofNat 8 k.code, BitVec.ofNat 8 left.code, BitVec.ofNat 8 old.refs]))
         ∧ ((∀ any, (s.tables.bank any).state ≠ .ready) →
             exec (.tableSwap src num) s = .next (s.answered s src num 8#8 2#8 8#8 [])))

/-- TABLE_READ (R92): BAD_VALUE 1 for a bank that is neither, 2 for an item that is none, 255 for an item not
loaded; otherwise DONE with the bank, its state and the item's image, laid out as section 10.6 gives it. Nothing else
changes. An entry or a trim table that has just been written is read back as the very bytes it was written with, the
breakpoint slots above its count as 0 (R76). -/
def Obligations.TableReadReturnsImages : Prop :=
  ∀ (s : State) (src num bank item : Byte) (k : BankId),
    let x := s.tables.bank k
    let answers := fun (t : State) (o d : Byte) (body : List Byte) =>
      exec (.tableRead src num bank item) t = .next (t.answered t src num 9#8 o d body)
    let reads := answers s
    let head := fun y : Bank => [bank, BitVec.ofNat 8 y.state.code]
    let image := fun e : SpeciesEntry =>
      [item, BitVec.ofNat 8 e.n] ++ e.points.flatMap (fun q => be16 q.1 ++ be16 q.2) ++ be16 e.pMin ++ be16 e.pMax
        ++ beS16 e.tThaw ++ beS16 e.tDeep ++ be16 e.frozen ++ be16 e.vRef ++ beS16 e.slope ++ be8 e.entryStart
        ++ be16 e.entryLength ++ be8 e.tailEnd ++ be16 e.tailLength
    let target := s.tables.mark = some k.other ∨ s.tables.mark = none ∧ k = .a
    s.slotFree →
      (bank = 0#8 ∨ 3 ≤ bank.toNat → reads 3#8 1#8 [])
      ∧ (bank.toNat = k.code → 32 ≤ item.toNat → item ≠ 255#8 → reads 3#8 2#8 [])
      ∧ (bank.toNat = k.code → item.toNat < 32 → x.entry item.toNat = none → reads 3#8 255#8 [])
      ∧ (bank.toNat = k.code → item = 255#8 → x.trims = none → reads 3#8 255#8 [])
      ∧ (∀ e, bank.toNat = k.code → item.toNat < 32 → x.entry item.toNat = some e → reads 0#8 0#8 (head x ++ image e))
      ∧ (∀ t, bank.toNat = k.code → item = 255#8 → x.trims = some t → reads 0#8 0#8 (head x ++ t.flatMap beS16))
      ∧ (∀ p t, bank.toNat = k.code → target → x.state = .loading → x.entries.length = 32 → p.length = 46 →
          (∀ n, EntryFieldOk p n) → item = p.getD 0 0#8 → exec (.tableEntry src num p) s = .next t → t.slotFree →
            answers t 0#8 0#8 (head x ++ (List.range 46).map (fun j =>
              if 2 + 4 * rd8 p 1 ≤ j ∧ j < 26 then 0#8 else p.getD j 0#8)))
      ∧ (∀ p t, bank.toNat = k.code → target → x.state = .loading → p.length = 20 →
          (∀ m, m < 10 → -800 ≤ rdS16 p (2 * m) ∧ rdS16 p (2 * m) ≤ 800) → item = 255#8 →
          exec (.tableTrim src num p) s = .next t → t.slotFree → answers t 0#8 0#8 (head x ++ p))

/-! ## Reports of state and ARM_RESTORE -/

/-- ARM_RESTORE (R139, R140) of channel i + 1 of station 1 or i + 6 of station 2: refused in UNSET and for a
DISABLED channel; nothing changes for a READY one; an ISOLATED one becomes READY at once in STANDBY, in TRIPPED
and with its station IDLE, and else its pending-restore flag is set. The reply carries the channel with its state
and pending flag as they stand after it; for a number that is no channel, BAD_VALUE with 255 for both. That a set flag
is sent as 1, rather than as another nonzero value, is the model's choice (log 33). -/
def Obligations.ArmRestoreByTheTable : Prop :=
  ∀ (s : State) (src num ch : Byte) (k : Station) (i : Nat) (c : Channel),
    let put := fun d : Channel => { s with arms := { s.arms with
      channels := s.arms.channels.set k ((s.arms.channels.get k).set i d) } }
    let replies := fun (t : State) (d : Channel) (o detail : Byte) => exec (.armRestore src num ch) s = .next
      (s.answered t src num 10#8 o detail
        [ch, BitVec.ofNat 8 d.state.code, if d.pendingRestore then 1#8 else 0#8])
    let restored := { c with
      state := .ready, pendingRestore := false, lastSent := 0, previous := 0, closedCycles := 0, deviations := 0 }
    let there := i < 5 ∧ ch.toNat = (match k with | .one => i + 1 | .two => i + 6)
      ∧ (s.arms.channels.get k)[i]? = some c
    let atOnce := s.mode.mode = .standby ∨ s.mode.mode = .tripped ∨ s.arms.stations.get k = .idle
    s.slotFree → s.arms.channels.one.length = 5 → s.arms.channels.two.length = 5 →
      (ch = 0#8 ∨ 11 ≤ ch.toNat → exec (.armRestore src num ch) s = .next
        (s.answered s src num 10#8 3#8 1#8 [ch, 255#8, 255#8]))
      ∧ (there → s.mode.mode = .unset → replies s c 2#8 1#8)
      ∧ (there → s.mode.mode ≠ .unset → c.state = .disabled → replies s c 2#8 9#8)
      ∧ (there → s.mode.mode ≠ .unset → c.state = .ready → replies s c 0#8 0#8)
      ∧ (there → s.mode.mode ≠ .unset → c.state = .isolated → atOnce → replies (put restored) restored 0#8 0#8)
      ∧ (there → s.mode.mode ≠ .unset → c.state = .isolated → ¬ atOnce →
          replies (put { c with pendingRestore := true }) { c with pendingRestore := true } 0#8 0#8)

/-- STATUS_READ and LOG_LIST (R172, R173, sections 10.2, 10.7 and 10.8) change nothing but the reply queue. The STATUS
body is the 64 bytes of section 10.8, with the two speed bytes of a rotor free above 65535 rpm (log 16); the LOG_LIST
body is the number of records and the seven bytes of section 10.7 for each, oldest first. The model's choices in them:
the tag byte of a synthetic current log is 0 (log 34), a set flag byte is 1 (log 33), and bits that section 10.8 does
not name are 0 (log 35). -/
def Obligations.ReportsChangeNothing : Prop :=
  (∀ (s : State) (src num : Byte), s.slotFree → s.arms.channels.one.length = 5 → s.arms.channels.two.length = 5 →
    let bit := fun (i : Nat) (f : Bool) => if f then 2 ^ i else 0
    let rotor := fun (speed : List Byte) (r : Rotor) => speed ++ be24 r.period
    let speedOk := fun (speed : List Byte) (r : Rotor) =>
      speed.length = 2 ∧ (r.speed ≤ 65535 → speed = be16 r.speed)
    let current : Station → Option LogRecord := fun k => match s.arms.stations.get k with
      | .engaged id => s.tracker.queue.find? (fun (r : LogRecord) => r.id == id)
      | _ => none
    let station := fun k : Station => [BitVec.ofNat 8 ((s.arms.stations.get k).code
        + bit 7 ((current k).any (fun (r : LogRecord) => r.origin == .synthetic))), ((current k).bind LogRecord.tag).getD 0#8]
    let channel := fun c : Channel => [BitVec.ofNat 8 (c.state.code + bit 2 c.pendingRestore + bit 3 c.clamp
        + 16 * armPosCode c.position)] ++ be16 c.lastSent
    let node := fun n : Node => [if n.silent then 1#8 else 0#8, BitVec.ofNat 8 n.missing]
    let eyes := s.inputs.eyes
    let rotors := s.inputs.rotors
    let standing := fun x : Standing => x.confirmed.code + bit 2 x.lostPending + bit 3 x.passedUnseen
    let summary := fun r : LogRecord =>
      [r.tag.getD 0#8, r.scanned, BitVec.ofNat 8 r.confidence,
       BitVec.ofNat 8 (r.species % 32 + bit 5 (r.bank == .b) + bit 6 (r.origin == .synthetic) + bit 7 r.joined),
       BitVec.ofNat 8 (standing r.at1 + 16 * standing r.at2)]
        ++ be16 (match r.length with | some n => n.mm.toNat | none => 0)
    (∃ speed1 speed2, speedOk speed1 rotors.one ∧ speedOk speed2 rotors.two ∧
      let body :=
        [BitVec.ofNat 8 s.mode.mode.code, BitVec.ofNat 8 s.mode.cause.code,
         BitVec.ofNat 8 (bit 0 s.inputs.trip + bit 1 s.travel.failed + bit 2 s.mode.line.isSome
           + bit 3 s.mode.ambient.isSome + bit 4 s.travel.dwell)]
        ++ beS16 (s.mode.ambient.getD 0)
        ++ [BitVec.ofNat 8 s.tables.a.state.code, BitVec.ofNat 8 s.tables.a.refs,
            BitVec.ofNat 8 s.tables.b.state.code, BitVec.ofNat 8 s.tables.b.refs,
            BitVec.ofNat 8 (match s.tables.mark with | some k => k.code | none => 0)]
        ++ station .one ++ station .two
        ++ s.arms.channels.one.flatMap channel ++ s.arms.channels.two.flatMap channel
        ++ node s.cycle.nodes.one ++ node s.cycle.nodes.two
        ++ [BitVec.ofNat 8 (bit 0 eyes.one.dark + bit 1 eyes.one.fault + bit 2 eyes.two.dark + bit 3 eyes.two.fault
             + bit 4 rotors.one.under + bit 5 rotors.two.under)]
        ++ rotor speed1 rotors.one ++ rotor speed2 rotors.two
        ++ be16 s.travel.feed ++ [BitVec.ofNat 8 s.tracker.queue.length] ++ be16 s.cycle.number
      exec (.statusRead src num) s = .next (s.answered s src num 11#8 0#8 0#8 body) ∧ body.length = 64)
    ∧ (let body := BitVec.ofNat 8 s.tracker.queue.length :: s.tracker.queue.flatMap summary
       exec (.logList src num) s = .next (s.answered s src num 12#8 0#8 0#8 body)
       ∧ body.length = 1 + 7 * s.tracker.queue.length))
  ∧ [Mode.unset, .standby, .run, .finishing, .tripped].map Mode.code = [0, 1, 2, 3, 4]
  ∧ [TripCause.none, .tripInput, .encoder].map TripCause.code = [0, 1, 2]
  ∧ [BankId.a, .b].map BankId.code = [1, 2]
  ∧ [BankState.idle, .copying, .loading, .ready, .active, .retiring].map BankState.code = [0, 1, 2, 3, 4, 5]
  ∧ (∀ id, [StationState.idle, .engaged id, .lockout].map StationState.code = [0, 1, 2])
  ∧ [ChannelState.disabled, .ready, .isolated].map ChannelState.code = [0, 1, 2]
  ∧ [Confirmed.no, .byEye, .byPrediction].map Confirmed.code = [0, 1, 2]
  ∧ [some ArmPos.opened, some .closed, some .moving, none].map armPosCode = [0, 1, 2, 3]

/-- COUNTERS_READ (R175): DONE with the twenty counters in the order of R174, two bytes each, in every mode;
with option 1 every counter is then 0; another option is refused BAD_VALUE 1 and changes nothing. -/
def Obligations.CountersReadAndClear : Prop :=
  ∀ (s : State) (src num opt : Byte), s.slotFree →
    let k := s.requests.counters
    let body := [k.uFramesOk, k.dFramesOk, k.hecCorrected, k.hecFailed, k.crcFailed, k.framesAborted,
      k.forwardDropped, k.serviceDiscarded, k.unsolicited, k.forbiddenKind, k.replyOverflow, k.scanOverflow,
      k.scanRejected, k.voidUnmatched, k.logsCompleted, k.logsLost, k.logsUnscanned, k.unscannedDropped,
      k.reportsMissing1, k.reportsMissing2].flatMap (fun n => [BitVec.ofNat 8 (n / 256), BitVec.ofNat 8 n])
    ∃ cleared : Counters, (∀ c, cleared.get c = 0)
      ∧ exec (.countersRead src num) s = .next (s.answered s src num 13#8 0#8 0#8 body)
      ∧ exec (.countersReadClear src num) s = .next
          (s.answered { s with requests := { s.requests with counters := cleared } } src num 13#8 0#8 0#8 body)
      ∧ (opt ≠ 0#8 → opt ≠ 1#8 →
          exec (.countersReadBadOption src num opt) s = .next (s.answered s src num 13#8 3#8 1#8 []))
      ∧ body.length = 40

/-! ## LINE_RESET -/

/-- The Travel Unit and the rotors after hardware reset and after LINE_RESET (R37, R41): travel count 0, the
levels of A and B as they stand, illegal count 0, encoder OK, mark clear, a new speed window with net count 0,
feed speed 0, still time running from now, dwell clear; each rotor's speed 0 and under-speed flag set, its
reference and last period absent and 0 after hardware reset and kept after LINE_RESET, so that its next pulse yields
a speed at once. LINE_RESET leaves no record to move, and a dark eye's dark-since position is 0. -/
def Obligations.ResetsRestartTravelAndRotors : Prop :=
  ∀ (s : State) (src num : Byte) (a b trip : Bool),
    let fresh := fun (x y : Bool) (now : Nat) =>
      { t := 0#24, lineA := x, lineB := y, illegal := 0, failed := false, disturbed := false
        windowStart := now, net := 0, feed := 0, stillSince := now, dwell := false : TravelUnit }
    (∃ t, exec (.hardwareReset a b trip) s = .next t ∧ t.travel = fresh a b t.now
      ∧ ∀ k, t.inputs.rotors.get k = { ref := none, period := 0, speed := 0, under := true })
    ∧ (s.slotFree → ∃ t, exec (.lineReset src num) s = .next t ∧ t.now = s.now
        ∧ t.travel = fresh s.travel.lineA s.travel.lineB t.now
        ∧ (∀ k, t.inputs.rotors.get k =
            { ref := (s.inputs.rotors.get k).ref, period := (s.inputs.rotors.get k).period, speed := 0, under := true })
        ∧ (∀ k x edge l, (s.inputs.rotors.get k).ref = some x → x < edge → edge ≤ x + 2000000 → s.mode.line = some l →
            ∃ u, exec (.rotorPulse k edge) t = .next u
              ∧ (u.inputs.rotors.get k).speed = 60000000 / ((edge - x) * l.record.pulses))
        ∧ t.tracker.queue = []
        ∧ ∀ k, (t.inputs.eyes.get k).darkSince = if (s.inputs.eyes.get k).dark then some 0#24 else none)

/-- LINE_RESET in the other blocks (R29, R45, R73, R95, R142, R163, R176): the mode is STANDBY, or TRIPPED with
the trip input asserted, or stays UNSET; line record, ambient temperature, own address, forward queues, arbiter's
mark and Port U's receiver and transmitter are kept; the eyes are OK with a dark one counted from 0; the log queue is
empty; the ACTIVE bank keeps its images and any other is IDLE with nothing loaded; the stations are IDLE, the
channels READY or DISABLED by the record with every value 0; node counts are 0; with a line record and no frame
on Port D cycle 1 starts at once with every channel OPEN. Port D is kept whole in UNSET and with a frame on its wire; when
cycle 1 starts at once its receiver is in HUNT (R3, R161), a frame in reception being kept for its last byte only when it
ends now (R162); that this byte is the one directly behind the command is the model's choice (log 32). The reply is the
only one in its queue. The counters are 0 after it: that they are 0 even when the new cycle aborts a frame in reception
is the model's choice (log 9). -/
def Obligations.LineResetRestartsTheLine : Prop :=
  ∀ (s : State) (src num : Byte),
    let reset := fun (line : Option Line) (k : Station) (i : Nat) =>
      { state := if (∃ l, line = some l ∧ l.record.armEnable.getLsbD (armBit k i) = true
            ∧ (k = .one ∨ l.record.stations = 2)) then ChannelState.ready else .disabled
        lastSent := 0, previous := 0, closedCycles := 0, deviations := 0, clamp := false
        pendingRestore := false, position := none : Channel }
    let bank := fun x : Bank => if x.state = .active then { x with refs := 0 }
      else { entries := List.replicate 32 none, trims := none, state := .idle, refs := 0 }
    let eye := fun e : Eye => { e with fault := false, darkSince := if e.dark then some 0#24 else none }
    s.slotFree → s.ModeOk → s.arms.channels.one.length = 5 → s.arms.channels.two.length = 5 →
      ∃ t, exec (.lineReset src num) s = .next t
        ∧ t.mode.line = s.mode.line ∧ t.mode.ambient = s.mode.ambient
        ∧ (s.mode.mode = .unset → t.mode.mode = .unset ∧ t.mode.cause = .none ∧ t.cycle.phase = .halted
            ∧ t.cycle.number = 0 ∧ t.portD = s.portD)
        ∧ (s.mode.mode ≠ .unset → s.inputs.trip = true → t.mode.mode = .tripped ∧ t.mode.cause = .tripInput)
        ∧ (s.mode.mode ≠ .unset → s.inputs.trip = false → t.mode.mode = .standby ∧ t.mode.cause = .none)
        ∧ t.switch = s.switch ∧ t.portU = s.portU ∧ t.pending = s.pending
        ∧ t.inputs.trip = s.inputs.trip
        ∧ t.inputs.eyes = { one := eye s.inputs.eyes.one, two := eye s.inputs.eyes.two }
        ∧ t.tracker.queue = [] ∧ t.tracker.faulted = { one := false, two := false }
        ∧ t.tables = { a := bank s.tables.a, b := bank s.tables.b, mark := s.tables.mark, copy := none }
        ∧ t.arms.stations = { one := .idle, two := .idle }
        ∧ (∀ k i, i < 5 → (t.arms.channels.get k)[i]? = some (reset s.mode.line k i))
        ∧ t.cycle.nodes = { one := { missing := 0, silent := false }, two := { missing := 0, silent := false } }
        ∧ t.cycle.headMiss = 0
        ∧ (∀ l, s.mode.line = some l → s.portD.tx = none → t.cycle.number = 1 ∧ t.cycle.phase = .sync
            ∧ t.cycle.wait = none ∧ t.cycle.nextDue = some (s.now + l.record.period * 1000)
            ∧ t.portD.tx.map Sending.frame = some (Frame.mk 255#8 s.switch.ownAddr 0x30#8 [0#8, 1#8])
            ∧ t.portD.rx.phase = .hunt ∧ t.portD.waiting = s.portD.waiting
            ∧ (¬ s.EndsNow → t.portD.cut = s.portD.cut)
            ∧ (s.EndsNow → t.portD.cut = some { rx := s.portD.rx, moment := s.now })
            ∧ t.cycle.composed = some { one := List.replicate 5 { close := false, setpoint := 0 }
                                        two := List.replicate 5 { close := false, setpoint := 0 } })
        ∧ (∀ l x, s.mode.line = some l → s.portD.tx = some x → t.portD = s.portD ∧ t.cycle.cutPending = true
            ∧ t.cycle.wait = none ∧ t.cycle.number = 0)
        ∧ (∀ c, t.requests.counters.get c = 0) ∧ t.requests.inFlight = none
        ∧ t.requests.replies = [Frame.mk src s.switch.ownAddr 0x21#8
            [num, 14#8, 0#8, 0#8, BitVec.ofNat 8 t.mode.mode.code]]

/-! ## Travel, rotors, eyes and the trip input -/

/-- A legal transition (R30, R33, R35, R36): forward adds one to T and to the net count, reverse subtracts one,
the still time restarts and the dwell flag clears; with the encoder failed only the reference state changes. With no
record queued and no dark eye in state OK this is the whole effect. In every state the ports, the switch, the
rotors, the eye levels, the line record, the cycle and the replies stay. The blocked-eye check (R43) is made: an
eye dark and OK for more travel than the longest log and the minimum gap falls into FAULT, and the Log Tracker marks
it as faulted when its station is in use (R65); any other eye and mark stays. A change to the levels already held
changes nothing (the model's choice, log 3). -/
def Obligations.LegalTransitionsCount : Prop :=
  ∀ (s : State) (a b : Bool),
    let x := s.travel.lineA
    let y := s.travel.lineB
    let forward := (x, y, a, b) ∈ [(false, false, true, false), (true, false, true, true),
      (true, true, false, true), (false, true, false, false)]
    let reverse := (x, y, a, b) ∈ [(false, false, false, true), (false, true, true, true),
      (true, true, true, false), (true, false, false, false)]
    let levels := { s.travel with lineA := a, lineB := b }
    let moved := fun (t : Travel) (net : Int) =>
      { levels with t := t, net := net, stillSince := s.now, dwell := false }
    let alone := s.tracker.queue = [] ∧ ∀ k, (s.inputs.eyes.get k).dark = false ∨ (s.inputs.eyes.get k).fault = true
    let rest := fun t : State => t.portU = s.portU ∧ t.portD = s.portD ∧ t.switch = s.switch ∧ t.cycle = s.cycle
      ∧ t.mode.line = s.mode.line ∧ t.mode.ambient = s.mode.ambient ∧ t.inputs.rotors = s.inputs.rotors
      ∧ t.inputs.trip = s.inputs.trip ∧ t.requests.replies = s.requests.replies ∧ t.now = s.now
      ∧ t.pending = s.pending
    let checked := fun t : State => ∀ k : Station,
      let e := s.inputs.eyes.get k
      let mark := s.tracker.faulted.get k
      let inUse := ∃ l, s.mode.line = some l ∧ (k = .one ∨ l.record.stations = 2)
      (e.blockedAt s.mode.line t.travel.t → t.inputs.eyes.get k = { e with fault := true }
        ∧ (inUse → t.tracker.faulted.get k = true) ∧ (¬ inUse → t.tracker.faulted.get k = mark))
      ∧ (¬ e.blockedAt s.mode.line t.travel.t → t.inputs.eyes.get k = e ∧ t.tracker.faulted.get k = mark)
    (x = a → y = b → exec (.encoderTransition a b) s = .next s)
    ∧ (forward ∨ reverse → s.travel.failed = true →
        exec (.encoderTransition a b) s = .next { s with travel := levels })
    ∧ (forward → s.travel.failed = false → ∃ t, exec (.encoderTransition a b) s = .next t ∧ rest t ∧ checked t
        ∧ t.travel = moved (s.travel.t + 1#24) (s.travel.net + 1) ∧ (alone → t = { s with travel := t.travel }))
    ∧ (reverse → s.travel.failed = false → ∃ t, exec (.encoderTransition a b) s = .next t ∧ rest t ∧ checked t
        ∧ t.travel = moved (s.travel.t - 1#24) (s.travel.net - 1) ∧ (alone → t = { s with travel := t.travel }))

/-- An illegal transition (R32, R33) raises the count, held at 255; the eighth of a window with the encoder OK
fails it and clears the mark; with the encoder failed it sets the mark. T stays. A change of the trip input
(R46, R20) changes the level. In UNSET and TRIPPED neither changes the mode, and a release never does. A change of
the trip input to the level already held changes nothing (the model's choice, log 3). -/
def Obligations.IllegalTransitionsAndTripLevel : Prop :=
  ∀ (s : State) (a b : Bool),
    let n := min 255 (s.travel.illegal + 1)
    let levels := { s.travel with lineA := a, lineB := b, illegal := n }
    let both := a ≠ s.travel.lineA ∧ b ≠ s.travel.lineB ∧ s.travel.illegal ≤ 255
    let still := s.mode.mode = .unset ∨ s.mode.mode = .tripped
    let level := fun x : Bool => { s with inputs := { s.inputs with trip := x } }
    (both → s.travel.failed = true → exec (.encoderTransition a b) s =
      .next { s with travel := { levels with disturbed := true } })
    ∧ (both → s.travel.failed = false → n < 8 → exec (.encoderTransition a b) s = .next { s with travel := levels })
    ∧ (both → s.travel.failed = false → 8 ≤ n → still → exec (.encoderTransition a b) s =
        .next { s with travel := { levels with failed := true, disturbed := false } })
    ∧ (s.inputs.trip = a → exec (.tripInputChange a) s = .next s)
    ∧ (s.inputs.trip = true → exec (.tripInputChange false) s = .next (level false))
    ∧ (s.inputs.trip = false → still → exec (.tripInputChange true) s = .next (level true))

/-- A trip (R20 to R22, R161, R162): in STANDBY, RUN and FINISHING the assertion of the trip input, and the illegal
transition that fails the encoder, lead to TRIPPED with their cause; the log queue is empty and no removal is
counted, both bank counts are 0 and a RETIRING bank is IDLE, both stations are IDLE; with no frame on Port D a new
cycle starts at once with every channel OPEN, and a wait in progress is counted missing by no one. After it the trip
level is as asserted and the Travel Unit as it was (R46); or the encoder is FAILED with its mark clear, its count 8 and
the new levels of A and B, and T and all else of the Travel Unit as they were (R32, R33). A start that fell
due together with that cut is superseded, so that it starts no further cycle; that a CYCLE_START then changes
nothing is the model's choice (log 36). A frame in reception is aborted and counted once (R3); a good one whose last
byte arrives together with the cut is UNSOLICITED and not aborted (R162); that this is the byte which waits directly behind
the command of the cut is the model's choice (log 32). -/
def Obligations.TripFlushesAndCutsCycle : Prop :=
  ∀ (s : State) (a b : Bool) (l : Line),
    let fails := a ≠ s.travel.lineA ∧ b ≠ s.travel.lineB ∧ s.travel.failed = false ∧ s.travel.illegal = 7
    let freed := fun x : Bank => { x with refs := 0, state := if x.state = .retiring then .idle else x.state }
    let failed := { s.travel with lineA := a, lineB := b, illegal := 8, failed := true, disturbed := false }
    let tripped := fun (c : Instr) (cause : TripCause) (travel : TravelUnit) (trip : Bool) => ∃ t, exec c s = .next t
      ∧ t.travel = travel ∧ t.inputs = { s.inputs with trip := trip } ∧ t.now = s.now
      ∧ t.mode = { s.mode with mode := .tripped, cause := cause }
      ∧ t.tracker = { s.tracker with queue := [] }
      ∧ t.tables = { s.tables with a := freed s.tables.a, b := freed s.tables.b }
      ∧ t.arms.stations = { one := .idle, two := .idle } ∧ t.cycle.wait = none ∧ t.cycle.nodes = s.cycle.nodes
      ∧ (∀ k, k ≠ .framesAborted → t.requests.counters.get k = s.requests.counters.get k)
      ∧ t.requests.replies = s.requests.replies ∧ t.switch = s.switch ∧ t.portU = s.portU
      ∧ (s.portD.tx = none → t.cycle.number = (s.cycle.number + 1) % 65536 ∧ t.cycle.phase = .sync
          ∧ t.cycle.nextDue = some (s.now + l.record.period * 1000)
          ∧ t.portD.tx.map Sending.frame =
              some (Frame.mk 255#8 s.switch.ownAddr 0x30#8 (be16 ((s.cycle.number + 1) % 65536)))
          ∧ (∀ k, ∀ c ∈ t.arms.channels.get k, c.lastSent = 0)
          ∧ (∃ p, t.cycle.composed = some p ∧ ∀ c ∈ p.one ++ p.two, c.close = false ∧ c.setpoint = 0)
          ∧ (0 < l.record.period → exec (.cycleStart s.now) t = .next t)
          ∧ s.CutsReception t
          ∧ (∀ last rest f, s.pending = .receiveByte .d last :: rest → s.portD.rx.completes last f →
              ∃ u, step t = .next u ∧ u.pending = rest
              ∧ u.cycle = t.cycle ∧ u.switch = t.switch ∧ u.portD.tx = t.portD.tx ∧ u.portD.rx.phase = .hunt
              ∧ ∀ k, u.requests.counters.get k =
                  ((s.counted .dFramesOk).counted .unsolicited).requests.counters.get k))
      ∧ (s.portD.tx ≠ none → t.portD = s.portD ∧ t.cycle.cutPending = true ∧ t.cycle.composed = none)
    s.mode.mode = .standby ∨ s.mode.mode = .run ∨ s.mode.mode = .finishing → s.mode.line = some l →
      (s.inputs.trip = false → tripped (.tripInputChange true) .tripInput s.travel true)
      ∧ (fails → tripped (.encoderTransition a b) .encoder failed s.inputs.trip)

/-- The end of a speed window (R34, R35): the feed speed is the largest whole v with v · w at most N · p, 4000
at most, and 0 for a net count of 0 or less; without a line record it stays; net and illegal counts become 0. The
dwell flag (R36) is set at the dwell time; without a line record it stays as it is (the model's choice, log 3). That
the commands move the clock up to the moment they stand for is one too (log 2). -/
def Obligations.SpeedWindowsAndDwell : Prop :=
  ∀ (s : State) (l : Line) (v : Nat),
    let p := l.record.pitch
    let w := l.record.speedWindow
    let u := s.travel
    let due := u.windowStart + w * 1000
    let ends := fun (at_ feed : Nat) => Host.Outcome.next
      { s with now := max s.now at_, travel := { u with feed := feed, windowStart := at_, net := 0, illegal := 0 } }
    (s.mode.line = some l → u.net ≤ 0 → exec .speedWindowEnd s = ends due 0)
    ∧ (s.mode.line = some l → 0 < u.net → v * w ≤ u.net.toNat * p → u.net.toNat * p < (v + 1) * w → v ≤ 4000 →
        exec .speedWindowEnd s = ends due v)
    ∧ (s.mode.line = some l → 0 < u.net → 0 < w → 4000 * w ≤ u.net.toNat * p → exec .speedWindowEnd s = ends due 4000)
    ∧ (s.mode.line = none → exec .speedWindowEnd s = ends (u.windowStart + 100000) u.feed)
    ∧ (s.mode.line = some l → exec .dwellSet s = .next
        { s with now := max s.now (u.stillSince + l.record.dwellTime * 1000), travel := { u with dwell := true } })
    ∧ (s.mode.line = none → exec .dwellSet s = .next s)

/-- A rotor pulse and the 2000 ms timeout (R38 to R40): without a reference the pulse only sets it; with one, the
time between is the period and the speed the largest whole n with n · t · q at most 60000000; the flag is set
below the under-speed value, cleared from the restart speed on and kept between. After 2000 ms without a pulse
speed and period are 0, the reference absent and the flag set. Said where the flag keeps its value or the mode is
neither RUN nor FINISHING or the station not in use; then nothing else changes. Without a line record speed 0 and flag
set stand. A pulse more than 2000 ms after the reference finds the timeout past and only sets the reference (the model's
choice, log 18). The model's choices: in RUN and FINISHING a judgement that
leaves the flag as it was changes nothing else (log 21), an edge not after the reference is no pulse (log 18), a
timeout without a reference is nothing (log 3), and the commands move the clock (log 2). -/
def Obligations.RotorPulsesAndTimeout : Prop :=
  ∀ (s : State) (k : Station) (edge t n : Nat) (l : Line),
    let r := s.inputs.rotors.get k
    let set := fun (now : Nat) (x : Rotor) => Host.Outcome.next
      { s with now := max s.now now, inputs := { s.inputs with rotors := s.inputs.rotors.set k x } }
    let under := if n < l.record.underSpeed then true else if l.record.restartSpeed ≤ n then false else r.under
    let fits := n * ((edge - t) * l.record.pulses) ≤ 60000000
      ∧ 60000000 < (n + 1) * ((edge - t) * l.record.pulses)
    let quiet := fun u : Bool => u = r.under ∨ s.mode.mode.works = false ∨ (k = .two ∧ l.record.stations ≠ 2)
    (r.ref = none → exec (.rotorPulse k edge) s = set (edge + 50) { r with ref := some edge })
    ∧ (r.ref = some t → edge ≤ t → exec (.rotorPulse k edge) s = .next s)
    ∧ (r.ref = some t → t < edge → edge ≤ t + 2000000 → s.mode.line = some l → fits → quiet under →
        exec (.rotorPulse k edge) s =
          set (edge + 50) { ref := some edge, period := edge - t, speed := n, under := under })
    ∧ (r.ref = some t → t < edge → edge ≤ t + 2000000 → s.mode.line = none →
        exec (.rotorPulse k edge) s =
          set (edge + 50) { ref := some edge, period := edge - t, speed := 0, under := true })
    ∧ (r.ref = none → exec (.rotorTimeout k) s = .next s)
    ∧ (r.ref = some t → s.mode.line = some l → 0 < l.record.underSpeed → quiet true →
        exec (.rotorTimeout k) s = set (t + 2000000) { ref := none, period := 0, speed := 0, under := true })
    ∧ (r.ref = some t → s.mode.line = none →
        exec (.rotorTimeout k) s = set (t + 2000000) { ref := none, period := 0, speed := 0, under := true })
    ∧ (r.ref = some t → t + 2000000 < edge → ∃ u, exec (.rotorTimeout k) s = .next u
        ∧ exec (.rotorPulse k edge) s = .next { u with now := max u.now (edge + 50), inputs := { u.inputs with
            rotors := u.inputs.rotors.set k { (u.inputs.rotors.get k) with ref := some edge } } })

/-- Under speed and LOCKOUT (R40, R68, R125 to R127), in RUN and FINISHING at a station in use. The setting of the
flag, by the 2000 ms timeout or by a pulse whose speed is below the under-speed value, puts an IDLE station in LOCKOUT,
and an ENGAGED one; its log is released, and when it is lost-pending and no other station is ENGAGED with it, it is
removed and counted in LOGS_LOST. A station in LOCKOUT stays there. The clearing of the flag lets a station in LOCKOUT
go IDLE with its pending restores completed when no record lies across its contact line, and leaves it in LOCKOUT while
one does; it changes no other station state. That the commands move the clock is the model's choice (log 2). -/
def Obligations.UnderSpeedLocksStationOut : Prop :=
  ∀ (s : State) (c : Instr) (k : Station) (edge t : Nat) (l : Line) (x : LogRecord) (front back : List LogRecord)
    (moment : Nat) (r' : Rotor),
    let r := s.inputs.rotors.get k
    let n := 60000000 / ((edge - t) * l.record.pulses)
    let turning := fun under : Bool => { ref := some edge, period := edge - t, speed := n, under := under : Rotor }
    let across := ∃ x ∈ s.tracker.queue, (x.at k).confirmed ≠ .no ∧ (x.at k).tracked = true ∧ (x.at k).contact = .on
    let with_ := fun a : ArmController =>
      { s with now := max s.now moment, inputs := { s.inputs with rotors := s.inputs.rotors.set k r' }, arms := a }
    let station := fun (x : StationState) => { s.arms with stations := s.arms.stations.set k x }
    let locked := with_ (station .lockout)
    let pulse := c = .rotorPulse k edge ∧ moment = edge + 50 ∧ t < edge ∧ edge ≤ t + 2000000
    let sets := r.under = false
      ∧ ((c = .rotorTimeout k ∧ moment = t + 2000000 ∧ 0 < l.record.underSpeed
            ∧ r' = { ref := none, period := 0, speed := 0, under := true })
        ∨ (pulse ∧ n < l.record.underSpeed ∧ r' = turning true))
    let clears := r.under = true ∧ pulse ∧ l.record.underSpeed ≤ n ∧ l.record.restartSpeed ≤ n ∧ r' = turning false
    let restored := fun c : Channel => if c.pendingRestore then
      { c with state := .ready, pendingRestore := false, lastSent := 0, previous := 0
               closedCycles := 0, deviations := 0 } else c
    s.mode.line = some l → s.mode.mode.works = true → k = .one ∨ l.record.stations = 2 → r.ref = some t →
      (sets → s.arms.stations.get k = .idle ∨ s.arms.stations.get k = .lockout
          ∨ (∃ id x, s.arms.stations.get k = .engaged id ∧ s.record? id = some x ∧ x.pendingLoss = false) →
        exec c s = .next locked)
      ∧ (sets → s.tracker.queue = front ++ x :: back → (s.tracker.queue.map LogRecord.id).Nodup →
          s.arms.stations.get k = .engaged x.id → (∃ j, (x.at j).lostPending = true) →
            ((∀ j, j ≠ k → s.arms.stations.get j ≠ .engaged x.id) →
              exec c s = .next (State.counted (locked.without x (front ++ back)) .logsLost))
            ∧ ((∃ j, j ≠ k ∧ s.arms.stations.get j = .engaged x.id) → exec c s = .next locked))
      ∧ (clears → s.arms.stations.get k ≠ .lockout ∨ across → exec c s = .next (with_ s.arms))
      ∧ (clears → s.arms.stations.get k = .lockout → ¬ across → exec c s = .next (with_
          { station .idle with channels := s.arms.channels.set k ((s.arms.channels.get k).map restored) }))

/-- An edge of an eye (R42, R44, R60 to R65). A rising edge sets the level and the dark-since position. At a station
in use it confirms by eye the oldest unconfirmed record in its window and rebases it to T − E_s, keeping B where the
order of the queue would break, with the joined flags of the record and of its successor decided anew; it is
ignored in the window of a confirmed record; else in RUN it makes a synthetic record at T − E_s, unconfirmed at
station 2 or passed-unseen at station 1, bound to the ACTIVE bank and counted in LOGS_UNSCANNED, but none where a
queued record has that B, and none with sixteen queued (UNSCANNED_DROPPED). A falling edge clears the level; it
measures the newest confirmed, unmeasured record, when the length reaches that of 1000 mm; of an eye in FAULT it
makes the eye OK and clears the Log Tracker's mark. Said where the moved or measured record raises no event. A
level that the eye already has changes nothing (the model's choice, log 3). -/
def Obligations.EyeEdgesMarkLogs : Prop :=
  ∀ (s : State) (k : Station) (dark : Bool) (l : Line) (bank : BankId) (r : LogRecord) (front back : List LogRecord),
    let e := s.inputs.eyes.get k
    let other : Station := match k with | .one => .two | .two => .one
    let eye := fun x : Eye => { s with inputs := { s.inputs with eyes := s.inputs.eyes.set k x } }
    let risen := eye { e with dark := true, darkSince := some s.travel.t }
    let cleared := eye { dark := false, fault := false, darkSince := none }
    let b := s.travel.t - BitVec.ofInt 24 (l.counts.eye.get k)
    let gap := l.counts.minGap
    let inUse := fun j : Station => j = .one ∨ l.record.stations = 2
    let absent := s.mode.line = none ∨ (s.mode.line = some l ∧ ¬ inUse k)
    let present := s.mode.line = some l ∧ inUse k
    let rises := e.dark = false ∧ e.fault = false
    let falls := e.dark = true ∧ e.fault = false
    let split := s.tracker.queue = front ++ r :: back ∧ (s.tracker.queue.map LogRecord.id).Nodup
    let candidate := fun x : LogRecord =>
      (x.at k).window = .within ∧ (x.at k).confirmed = .no ∧ (x.at k).tracked = true
    let seen := fun x : LogRecord => (x.at k).window = .within ∧ (x.at k).confirmed ≠ .no ∧ (x.at k).tracked = true
    let unmeasured := fun x : LogRecord =>
      (x.at k).confirmed ≠ .no ∧ (x.at k).measured = false ∧ (x.at k).tracked = true
    let unseen := (∀ x ∈ s.tracker.queue, ¬ candidate x ∧ ¬ seen x ∧ x.b ≠ b) ∧ s.mode.mode = .run
    let ordered := (∀ p ∈ front.getLast?, 0 < travelDiff b p.b) ∧ (∀ y ∈ back.head?, 0 < travelDiff y.b b)
    let byEye := r.setAt k { r.at k with confirmed := .byEye }
    let rebased := LogRecord.rejoined gap front.getLast? { byEye with b := b }
    let quiet := r.at1.lostPending = false ∧ r.at2.lostPending = false
    let n := travelDiff s.travel.t r.b - l.counts.eye.get k
    let least := roundDiv (1000 * 1000) l.record.pitch
    let counts := min n l.counts.maxLength
    let long := { counts := counts, mm := roundDiv (counts * l.record.pitch) 1000 : LogLength }
    let measured := { r with length := some long }.setAt k { r.at k with measured := true }
    let queued := fun (t : State) (q : List LogRecord) => Host.Outcome.next { t with tracker := { s.tracker with queue := q } }
    (e.dark = dark → exec (.eyeEdge k dark) s = .next s)
    ∧ (rises → absent → exec (.eyeEdge k true) s = .next risen)
    ∧ (rises → present → (∀ x ∈ s.tracker.queue, ¬ candidate x) → (∃ x ∈ s.tracker.queue, seen x) →
        exec (.eyeEdge k true) s = .next risen)
    ∧ (rises → present → (∀ x ∈ s.tracker.queue, ¬ candidate x) →
        s.mode.mode ≠ .run ∨ (∃ x ∈ s.tracker.queue, x.b = b) → exec (.eyeEdge k true) s = .next risen)
    ∧ (rises → present → unseen → 16 ≤ s.tracker.queue.length →
        exec (.eyeEdge k true) s = .next (State.counted risen .unscannedDropped))
    ∧ (rises → present → unseen → s.tracker.queue.length < 16 → s.tables.mark = some bank → 0 ≤ l.counts.tolerance →
        s.tracker.queue = front ++ back → (∀ x ∈ front, travelDiff x.b b ≤ 0) →
        (∀ y ∈ back.head?, 0 < travelDiff y.b b) → (s.tracker.queue.map LogRecord.id).Nodup →
        (∀ x ∈ s.tracker.queue, x.id < s.tracker.nextId) →
          ∃ y : LogRecord, exec (.eyeEdge k true) s = .next (State.counted
            { risen with
              tracker := { s.tracker with
                queue := front ++ y :: rejoinedNext gap (some y) back, nextId := s.tracker.nextId + 1 }
              tables := s.tables.setBank bank
                { s.tables.bank bank with refs := (s.tables.bank bank).refs + 1 } } .logsUnscanned)
          ∧ y.origin = .synthetic ∧ y.tag = none ∧ y.scanned = 0#8 ∧ y.species = 0 ∧ y.confidence = 0 ∧ y.b = b
          ∧ y.bank = bank ∧ y.butt = l.record.defaultDiameter ∧ y.top = l.record.defaultDiameter ∧ y.profile = []
          ∧ y.length = none ∧ y.temperature = s.mode.ambient ∧ y.joinForced = false
          ∧ y.joined = (match front.getLast? with
              | some p => (match p.length with
                | some m => decide (travelDiff b (p.b + BitVec.ofInt 24 m.counts) < gap)
                | none => false)
              | none => false)
          ∧ (y.at k).confirmed = .byEye ∧ (y.at k).tracked = true ∧ (y.at k).measured = false
          ∧ (y.at k).window = .within ∧ (y.at k).contact = .short
          ∧ (inUse other → (y.at other).confirmed = .no ∧ (y.at other).measured = false
              ∧ (y.at other).lostPending = false ∧ ((y.at other).passedUnseen = true ↔ k = .two)
              ∧ (y.at other).standsAt l.counts other none (travelDiff s.travel.t b)))
    ∧ (rises → present → split → (∀ x ∈ front, ¬ candidate x) → candidate r → ¬ ordered →
        exec (.eyeEdge k true) s = queued risen (front ++ byEye :: back))
    ∧ (rises → present → split → (∀ x ∈ front, ¬ candidate x) → candidate r → ordered →
        0 ≤ l.counts.tolerance → -8388608 ≤ l.counts.eye.get k → l.counts.eye.get k ≤ 8388607 →
        l.counts.eye.get k < l.counts.contact.get k → (r.at k).contact = .short → quiet →
        (inUse other → (r.at other).standsAt l.counts other r.length (l.counts.eye.get k)) →
        r.unlimited l (l.counts.eye.get k) →
          exec (.eyeEdge k true) s = queued risen (front ++ rebased :: rejoinedNext gap (some rebased) back))
    ∧ (falls → absent ∨ (present ∧ ∀ x ∈ s.tracker.queue, ¬ unmeasured x) →
        exec (.eyeEdge k false) s = .next cleared)
    ∧ (falls → present → split → (∀ x ∈ back, ¬ unmeasured x) → unmeasured r → n < least →
        exec (.eyeEdge k false) s = .next cleared)
    ∧ (falls → present → split → (∀ x ∈ back, ¬ unmeasured x) → unmeasured r → least ≤ n → quiet →
        0 ≤ l.counts.tolerance → least ≤ l.counts.maxLength →
        (∀ j, inUse j → (r.at j).standsAt l.counts j (some long) (travelDiff s.travel.t r.b)) →
          exec (.eyeEdge k false) s = queued cleared (front ++ measured :: rejoinedNext gap (some measured) back))
    ∧ (e.dark = true → e.fault = true → present → exec (.eyeEdge k false) s = .next { cleared with
        tracker := { s.tracker with faulted := s.tracker.faulted.set k false } })
    ∧ (e.dark = true → e.fault = true → absent → exec (.eyeEdge k false) s = .next cleared)

/-- One count of travel in RUN or FINISHING, forward or back, that changes the standing of one record at one station
(R57 to R59). The length limit comes first (R70): an unknown length whose limit is reached becomes the longest, and
the successor's joined flag is decided anew. A confirmed record: its butt at the contact line engages an IDLE
station whose rotor is at speed, any other stays as it is (R120, R121); its tail hands the station to a joined,
confirmed and tracked successor or leaves it IDLE (R122, R123), and at the last station completes the record, counted
in LOGS_COMPLETED (R71); its back-out leaves the station IDLE when that is ENGAGED with it or with a younger record
(R124); tail and back-out are examined in LOCKOUT (R127). An unconfirmed record whose window closes: on a dark or
faulted eye it is confirmed by prediction, the join forced on a dark eye in state OK (R66); on a clear eye it is
lost, counted in LOGS_LOST, or lost-pending while a station is ENGAGED with it (R67). A record lost-pending at
station 2 that station 1 leaves is removed and counted in LOGS_LOST (R68). A removal lowers the bank's count, is
examined in LOCKOUT and ends FINISHING with the last record (R19, R72, R90, R128); a station that it would leave
ENGAGED with the removed record is IDLE by the model's choice (log 31). -/
def Obligations.RecordsMeetTheStation : Prop :=
  ∀ (s : State) (up : Bool) (r r0 : LogRecord) (front back after : List LogRecord) (l : Line) (k : Station),
    let t := if up then s.travel.t + 1#24 else s.travel.t - 1#24
    let moved := { s with travel := { s.travel with
      lineA := up, lineB := !up, t := t, net := if up then s.travel.net + 1 else s.travel.net - 1
      stillSince := s.now, dwell := false } }
    let answers := fun u : State => exec (.encoderTransition up (!up)) s = .next u
    let pos := travelDiff t r.b
    let ends := l.counts.eye.get k + l.counts.tolerance
    let inUse := fun j : Station => j = .one ∨ l.record.stations = 2
    let other : Station := match k with | .one => .two | .two => .one
    let last := k = .two ∨ l.record.stations ≠ 2
    let x := r0.at k
    let window : WindowPos :=
      if pos < l.counts.eye.get k - l.counts.tolerance then .short else if pos ≤ ends then .within else .past
    let changed := fun y : Standing => front ++ r0.setAt k { y with window := window } :: after
    let becomes := fun (y : Standing) (a : ArmController) =>
      { moved with tracker := { s.tracker with queue := changed y }, arms := a }
    let removed := fun (a : ArmController) (left : List LogRecord) (c : Counter) =>
      State.counted (({ moved with arms := a }).without r left) c
    let station := fun y : StationState => { s.arms with stations := s.arms.stations.set k y }
    let held := s.arms.stations.get k
    let cleared := { x with contact := .clear }
    let backed := { x with contact := .short }
    let handed := fun y : LogRecord => y.joined = true ∧ (y.at k).confirmed ≠ .no ∧ (y.at k).tracked = true
    let tailed : ArmController := if held = .engaged r.id
      then (match after with
        | y :: _ => if handed y then station (.engaged y.id) else s.arms.idled k
        | [] => s.arms.idled k)
      else moved.unlocked (changed cleared) k s.arms
    let out : ArmController :=
      if held = .engaged r.id ∨ ∃ z ∈ after, held = .engaged z.id then s.arms.idled k
      else moved.unlocked (changed backed) k s.arms
    let limited := r.length = none ∧ ∃ j, inUse j ∧ (r.at j).passedUnseen = false
      ∧ l.counts.contact.get j + l.counts.maxLength ≤ pos
    let longest := some { counts := l.counts.maxLength, mm := roundDiv (l.counts.maxLength * l.record.pitch) 1000 }
    let moves := s.mode.mode.works = true ∧ s.mode.line = some l ∧ inUse k ∧ s.travel.failed = false
      ∧ s.travel.lineA = false ∧ s.travel.lineB = false ∧ s.tracker.queue = front ++ r :: back
      ∧ (s.tracker.queue.map LogRecord.id).Nodup ∧ 0 ≤ l.counts.tolerance
      ∧ roundDiv (1000 * 1000) l.record.pitch ≤ l.counts.maxLength
      ∧ (∀ y ∈ front ++ back, y.still l t) ∧ (∀ j, ¬ (s.inputs.eyes.get j).blockedAt s.mode.line t)
      ∧ (inUse other → (r.at other).standsAt l.counts other r0.length pos)
      ∧ (limited → r0 = { r with length := longest } ∧ after = rejoinedNext l.counts.minGap (some r0) back)
      ∧ (¬ limited → r0 = r ∧ after = back)
    let free := (r.at other).lostPending = false ∧ x.tracked = true
    let butts := x.contact = .short ∧ l.counts.contact.get k ≤ pos
      ∧ ∀ n, r0.length = some n → pos < l.counts.contact.get k + n.counts
    let tails := x.contact = .on ∧ l.counts.contact.get k ≤ pos
      ∧ ∃ n, r0.length = some n ∧ l.counts.contact.get k + n.counts ≤ pos
    let backs := x.contact ≠ .short ∧ pos < l.counts.contact.get k
    let closes := x.confirmed = .no ∧ x.window ≠ .past ∧ ends < pos ∧ x.contact = .short
      ∧ pos < l.counts.contact.get k
    let dark := (s.inputs.eyes.get k).dark = true
    let faulted := s.tracker.faulted.get k = true
    let engaged := ∃ j, s.arms.stations.get j = .engaged r.id
    moves →
      (free → x.confirmed ≠ .no → butts →
        (held = .idle → (s.inputs.rotors.get k).under = false →
          answers (becomes { x with contact := .on } (station (.engaged r.id))))
        ∧ (held ≠ .idle ∨ (s.inputs.rotors.get k).under = true → answers (becomes { x with contact := .on } s.arms)))
      ∧ (free → x.confirmed ≠ .no → tails → ¬ last → answers (becomes cleared tailed))
      ∧ (free → x.confirmed ≠ .no → tails → last → answers (removed tailed (front ++ after) .logsCompleted))
      ∧ (free → x.confirmed ≠ .no → backs → answers (becomes backed out))
      ∧ (free → closes → dark ∨ faulted →
          let seen := { x with confirmed := .byPrediction, window := .past }
          (dark → (s.inputs.eyes.get k).fault = false → answers { moved with tracker := { s.tracker with
            queue := front ++ { r0 with joinForced := true, joined := !front.isEmpty }.setAt k seen :: after } })
          ∧ (¬ dark ∨ (s.inputs.eyes.get k).fault = true → answers (becomes seen s.arms)))
      ∧ (free → closes → ¬ dark → ¬ faulted → engaged → answers (becomes { x with lostPending := true } s.arms))
      ∧ (free → closes → ¬ dark → ¬ faulted → ¬ engaged →
          answers (removed s.arms (front ++ rejoinedNext l.counts.minGap front.getLast? after) .logsLost))
      ∧ (k = .one → l.record.stations = 2 → r.at2.lostPending = true → x.tracked = true → x.confirmed ≠ .no →
          (∀ j, s.arms.stations.get j = .engaged r.id ↔ j = .one) →
            (tails → answers (removed tailed (front ++ after) .logsLost))
            ∧ (backs → answers (removed out (front ++ after) .logsLost)))

/-! ## The arm cycle -/

/-- The next start falling due (R145 to R147). With no exchange in progress the cycle starts: the number rises by
one from 65535 to 0, every channel is composed from the state as it stands, the commands are held for both nodes,
CYCLE_SYNC goes to broadcast, aborting a frame in reception (R3), and the next start is one period later. In an
exchange the start is deferred. The command names the moment of the start that falls due; where that is not the
next start, as after a cut that was taken first (R162), nothing happens (the model's choices, logs 3 and 36). That
the command moves the clock is one too (log 2). -/
def Obligations.CycleStartComposesAndSyncs : Prop :=
  ∀ (s : State) (l : Line) (due : Nat),
    let later := max s.now due
    (s.mode.line = some l → s.cycle.nextDue = some due →
      s.cycle.phase = .window .idle ∨ s.cycle.phase = .window .closed → s.portD.tx = none →
        exec (.cycleStart due) s = .next (s.started l later))
    ∧ (s.cycle.nextDue = some due → s.cycle.phase ≠ .halted → s.cycle.phase ≠ .window .idle →
        s.cycle.phase ≠ .window .closed → exec (.cycleStart due) s = .next
          { s with now := later, cycle := { s.cycle with deferred := true } })
    ∧ (s.cycle.nextDue ≠ some due → exec (.cycleStart due) s = .next s)

/-- A report that is missing (R149 to R151, R153): the timeout with no START, the limit with the frame in
reception, a frame in reception that is aborted by a byte or by the gap or fails at its header or its CRC, a good
frame that is not an ARM_REPORT from the node to the own address, and one with wrong contents, all end the wait. The
receiver's own counting stands; the frame that is no ARM_REPORT from the node to the own address is UNSOLICITED, the
one with wrong contents is not. The node's counter and missing count rise by one, each held at its top, and from 3 on the
node is SILENT. The channels keep all they hold, and the cycle goes on (R148, R156). The model's choices: ARM_REPORT and
UNSOLICITED take the frame as a whole and leave D_FRAMES_OK as it was, while the frame's last byte takes it in its own
step and counts it (log 1); a timeout, a limit and the gap move the clock (log 2); a deferred start is taken, and its
cycle composed, in the step that ends the exchange (log 11); the head misses of an empty queue (log 25). -/
def Obligations.MissingReportIsCounted : Prop :=
  ∀ (s base : State) (c : Instr) (l : Line) (w : Wait) (k : Station) (m : Nat) (was : Bool),
    let addr := BitVec.ofNat 8 (match k with | .one => l.record.node1 | .two => l.record.node2)
    let counter := match k with | .one => Counter.reportsMissing1 | .two => Counter.reportsMissing2
    let received := fun r : Receiver => { s with portD := { s.portD with rx := r } }
    let hunted := received s.portD.rx.hunted
    let at_ := fun moment : Nat => max s.now moment
    let foreign := fun f : Frame => f.kind ≠ 0x32#8 ∨ f.src ≠ addr ∨ f.dest ≠ s.switch.ownAddr
    let wrong := fun p : List Byte => p.length ≠ 17 ∨ rd16 p 0 ≠ s.cycle.number
      ∨ ∃ i, i < 5 ∧ rd8 p (4 + 3 * i) % 4 = 3
    let byte := fun (b : Byte) => c = .receiveByte .d b ∧ s.portD.tx = none
    let misses :=
      (c = .reportTimeout ∧ w.begun = false ∧ base = { s with now := at_ (w.released + l.record.reportTimeout) })
      ∨ (c = .reportLimit ∧ w.begun = true ∧ base = { s with now := at_ (w.released + l.record.reportTimeout + 250) })
      ∨ (c = .byteGapTimeout .d ∧ s.portD.rx.phase ≠ .hunt
          ∧ base = State.counted { hunted with now := at_ (s.portD.rx.gapFrom + 50) } .framesAborted)
      ∨ (∃ b r x, byte b ∧ s.portD.rx.spoils s.now b r x ∧ base = (received r).counted x)
      ∨ (∃ f, c = .unsolicited f ∧ foreign f ∧ base = hunted.counted .unsolicited)
      ∨ (∃ p, c = .armReport s.switch.ownAddr addr p ∧ wrong p ∧ base = hunted)
      ∨ (∃ b f, byte b ∧ s.portD.rx.completes b f ∧ foreign f
          ∧ base = (hunted.counted .dFramesOk).counted .unsolicited)
      ∨ (∃ b p, byte b ∧ s.portD.rx.completes b (Frame.mk s.switch.ownAddr addr 0x32#8 p) ∧ wrong p
          ∧ base = hunted.counted .dFramesOk)
    let missing := if m < 255 then m + 1 else m
    let ended := State.counted
      { base with cycle := { s.cycle with
          wait := none
          nodes := s.cycle.nodes.set k { missing := missing, silent := was || decide (3 ≤ missing) } } } counter
    s.mode.line = some l → s.cycle.wait = some w → s.cycle.phase = .report k →
    s.cycle.nodes.get k = { missing := m, silent := was } → misses →
      (s.portD.tx = none → ended.AfterReportWait l k (fun t => exec c s = .next t))
      ∧ ∃ t, exec c s = .next t ∧ t.cycle.wait = none ∧ t.cycle.phase ≠ .report k
        ∧ t.requests.counters.get counter = (if s.requests.counters.get counter < 65535
            then s.requests.counters.get counter + 1 else s.requests.counters.get counter)
        ∧ (∀ j, j ≠ .framesAborted → j ≠ .serviceDiscarded →
            t.requests.counters.get j = ended.requests.counters.get j)
        ∧ t.cycle.nodes = ended.cycle.nodes
        ∧ (s.cycle.deferred = false → t.arms = s.arms)
        ∧ t.arms.stations = s.arms.stations ∧ t.mode = s.mode ∧ t.tables = s.tables ∧ t.tracker = s.tracker
        ∧ t.travel = s.travel ∧ t.inputs = s.inputs ∧ t.requests.replies = s.requests.replies

/-- A READY channel whose entry in a good report carries the valve-fault flag becomes ISOLATED with deviation
count 0 and its pending restore cleared (R136, R137), whatever pressure the entry carries; its last reported
position is the entry's. Nothing else of it changes, but what a deferred start composes in the same step
(the model's choice, log 11). -/
def Obligations.ValveFaultIsolatesChannel : Prop :=
  ∀ (s : State) (l : Line) (w : Wait) (k : Station) (p : List Byte) (i : Nat) (c : Channel),
    let addr := BitVec.ofNat 8 (match k with | .one => l.record.node1 | .two => l.record.node2)
    s.mode.line = some l → s.cycle.wait = some w → s.cycle.phase = .report k →
    p.length = 17 → rd16 p 0 = s.cycle.number → (∀ j, j < 5 → rd8 p (4 + 3 * j) % 4 ≠ 3) →
    i < 5 → (s.arms.channels.get k)[i]? = some c → c.state = .ready → 128 ≤ rd8 p (4 + 3 * i) →
      ∃ t d, exec (.armReport s.switch.ownAddr addr p) s = .next t ∧ (t.arms.channels.get k)[i]? = some d
        ∧ d.state = .isolated ∧ d.deviations = 0 ∧ d.pendingRestore = false
        ∧ d.position = armPos? (rd8 p (4 + 3 * i) % 4)
        ∧ (s.cycle.deferred = false → d =
            { c with state := .isolated, deviations := 0, pendingRestore := false
                     position := armPos? (rd8 p (4 + 3 * i) % 4) })

/-- A good report of the current cycle (R133 to R135, R148, R152): every channel takes its position, and a channel that
is not READY keeps the rest; a READY channel without a valve fault is compared only when its station is ENGAGED, its node
was not SILENT and four CLOSE compositions have come in succession: a deviation above the tolerance raises its count and
at the limit isolates it; one at or below it clears the count. The other station's channels stay. The node's missing
count is 0 and its SILENT flag clear, the wait ends, and the cycle goes on: node 2's composed ARM_SETPOINT on a line of
two stations, and otherwise the service window with its head. The model's choices: ARM_REPORT takes the frame as a whole
and leaves D_FRAMES_OK as it was, while the frame's last byte takes it in its own step and counts it (log 1); a deferred
start is taken in the step that ends the exchange (log 11); the head misses of an empty queue (log 25). -/
def Obligations.GoodReportSupervisesChannels : Prop :=
  ∀ (s base : State) (c : Instr) (l : Line) (w : Wait) (k : Station) (p : List Byte),
    let addr := BitVec.ofNat 8 (match k with | .one => l.record.node1 | .two => l.record.node2)
    let hunted := { s with portD := { s.portD with rx := s.portD.rx.hunted } }
    let reported := (c = .armReport s.switch.ownAddr addr p ∧ base = hunted)
      ∨ (∃ b, c = .receiveByte .d b ∧ s.portD.tx = none
          ∧ s.portD.rx.completes b (Frame.mk s.switch.ownAddr addr 0x32#8 p) ∧ base = hunted.counted .dFramesOk)
    let compared := fun ch : Channel => (∃ id, s.arms.stations.get k = .engaged id)
      ∧ (s.cycle.nodes.get k).silent = false ∧ 4 ≤ ch.closedCycles
    let above := fun (i : Nat) (ch : Channel) =>
      l.record.deviation < ((rd16 p (2 + 3 * i) : Int) - ch.previous).natAbs
    s.mode.line = some l → s.cycle.wait = some w → s.cycle.phase = .report k → reported →
    p.length = 17 → rd16 p 0 = s.cycle.number → (∀ j, j < 5 → rd8 p (4 + 3 * j) % 4 ≠ 3) →
      ∃ channels : List Channel,
        let ended := { base with
          arms := { s.arms with channels := s.arms.channels.set k channels }
          cycle := { s.cycle with
            wait := none, nodes := s.cycle.nodes.set k { missing := 0, silent := false } } }
        channels.length = min 5 (s.arms.channels.get k).length
        ∧ (∀ i ch, i < 5 → (s.arms.channels.get k)[i]? = some ch →
            let placed := { ch with position := armPos? (rd8 p (4 + 3 * i) % 4) }
            ∃ d, channels[i]? = some d
              ∧ (ch.state ≠ .ready → d = placed)
              ∧ (ch.state = .ready → rd8 p (4 + 3 * i) < 128 →
                  (¬ compared ch → d = placed)
                  ∧ (compared ch → ¬ above i ch → d = { placed with deviations := 0 })
                  ∧ (compared ch → above i ch → ch.deviations + 1 < l.record.deviationLimit →
                      d = { placed with deviations := ch.deviations + 1 })
                  ∧ (compared ch → above i ch → l.record.deviationLimit ≤ ch.deviations + 1 →
                      d = { placed with state := .isolated, deviations := 0, pendingRestore := false })))
        ∧ (∃ t, exec c s = .next t ∧ t.cycle.wait = none ∧ t.cycle.nodes = ended.cycle.nodes
            ∧ t.arms.stations = s.arms.stations ∧ (s.cycle.deferred = false → t.arms = ended.arms))
        ∧ (s.portD.tx = none → ended.AfterReportWait l k (fun t => exec c s = .next t))

/-- The end of node N's report wait (R148, R154, R156 to R158), at the timeout with no START and at the report limit
with the frame in reception. After node 1's on a line of two stations node 2's ARM_SETPOINT goes out. After the last
the service window opens and examines the head: none leaves forwarding idle and the miss count as it was (the model's
choice in states where it is not 0, log 25); one that fits in the time to the next start is sent and the miss count
is 0; one that does not is a head miss and closes forwarding, and at the third in succession it is discarded and
counted in SERVICE_DISCARDED, and the next head is examined, which sends it or is its own first miss. What is sent
aborts a frame in reception (R3). A start deferred in the exchange is taken when forwarding is idle or closed (R145);
that the timeout's or the limit's own step takes it is the model's choice (log 11), and that the commands move the clock
is one too (log 2). -/
def Obligations.WaitsEndInTheServiceWindow : Prop :=
  ∀ (s : State) (c : Instr) (l : Line) (w : Wait) (k : Station) (ends : Nat),
    let expires := (c = .reportTimeout ∧ w.begun = false ∧ ends = w.released + l.record.reportTimeout)
      ∨ (c = .reportLimit ∧ w.begun = true ∧ ends = w.released + l.record.reportTimeout + 250)
    let counter := match k with | .one => Counter.reportsMissing1 | .two => Counter.reportsMissing2
    let n := s.cycle.nodes.get k
    let m := if n.missing < 255 then n.missing + 1 else n.missing
    let ended := State.counted
      { s with
        now := max s.now ends
        cycle := { s.cycle with
          wait := none, nodes := s.cycle.nodes.set k { missing := m, silent := n.silent || decide (3 ≤ m) } } } counter
    s.mode.line = some l → s.cycle.wait = some w → s.cycle.phase = .report k → expires → s.portD.tx = none →
      ended.AfterReportWait l k (fun t => exec c s = .next t)

/-- A reply wait (R11, R159, R160): a good frame from the addressed station joins the upstream forward queue, or is
dropped and counted without room; from another it is UNSOLICITED; a frame that a byte or the byte gap aborts, or that
fails at its header or its CRC, ends the wait with the receiver's counter alone; the timeout with no START and the limit
with a frame in reception end it with nothing counted. The next head is then examined (R156): none leaves forwarding
idle, one that fits is sent, one that does not closes forwarding; a start deferred in the exchange is taken when
forwarding is idle or closed (R145). With no wait (R15, R144, R155) a good frame on Port D is discarded and counted
in UNSOLICITED. The model's choices: REPLY_FROM_STATION and UNSOLICITED take the frame as a whole, leaving the receiver
in HUNT and D_FRAMES_OK as it was, while the frame's last byte takes it in its own step and counts it (log 1), even
while the transmitter drives (log 30); the step that ends the wait takes the deferred start (log 11); without a wait a
timeout or a limit changes nothing (log 3); a timeout, a limit and the gap move the clock (log 2). -/
def Obligations.ReplyWaitsAndUnawaitedFrames : Prop :=
  (∀ (s : State) (l : Line) (w : Wait) (addr b : Byte) (f : Frame) (r : Receiver) (counter : Counter),
     let received := fun x : Receiver => { s with portD := { s.portD with rx := x } }
     let hunted := received s.portD.rx.hunted
     let room := (s.switch.up.map (fun g => 4 + g.payload.length)).sum + (4 + f.payload.length) ≤ 1024
     let at_ := fun moment : Nat => max s.now moment
     let goesOn := fun (c : Instr) (t : State) =>
       State.NextHead { t with cycle := { t.cycle with wait := none } } l (fun u => exec c s = .next u)
     let takes := fun (c : Instr) (t : State) =>
       (f.src = addr → room → goesOn c { t with switch := { s.switch with up := s.switch.up ++ [f] } })
       ∧ (f.src = addr → ¬ room → goesOn c (t.counted .forwardDropped))
       ∧ (f.src ≠ addr → goesOn c (t.counted .unsolicited))
     s.mode.line = some l → s.cycle.wait = some w → s.cycle.phase = .window (.replyWait addr) → s.portD.tx = none →
       takes (.replyFromStation f) hunted
       ∧ (s.portD.rx.completes b f → takes (.receiveByte .d b) (hunted.counted .dFramesOk))
       ∧ (s.portD.rx.spoils s.now b r counter → goesOn (.receiveByte .d b) ((received r).counted counter))
       ∧ (s.portD.rx.phase ≠ .hunt → goesOn (.byteGapTimeout .d)
           (State.counted { hunted with now := at_ (s.portD.rx.gapFrom + 50) } .framesAborted))
       ∧ (w.begun = false → goesOn .replyTimeout { s with now := at_ (w.released + l.record.reportTimeout) })
       ∧ (w.begun = true → goesOn .replyLimit { s with now := at_ (w.released + l.record.reportTimeout + 1280) }))
  ∧ (∀ (s : State) (f : Frame),
       s.cycle.wait = none →
         exec (.unsolicited f) s = .next
           (State.counted { s with portD := { s.portD with rx := s.portD.rx.hunted } } .unsolicited)
         ∧ exec .reportTimeout s = .next s ∧ exec .reportLimit s = .next s
         ∧ exec .replyTimeout s = .next s ∧ exec .replyLimit s = .next s)
end

