-- ==== Sys2Proof/Laws/Effects.lean ====
section
/-! SUPPORT. The effects that the claims speak of are those of the operations. -/

namespace Sys2Proof.Machine

/-- Driving a frame with the line released (R14, R3). -/
theorem driveD_eq_drives {s : State} {f : Frame} (h : s.portD.tx = none) : driveD f s = s.drives f s.now := by
  unfold driveD State.drives abortReception
  rw [h]
  cases hp : s.portD.rx.phase <;> simp [Receiver.receiving, Receiver.hunt, hp, State.counted, State.bump, wireTime, Config.byteTime]

/-- A cycle start taken with the line released (R145 to R147). -/
theorem startCycle_eq_started {s : State} {l : Line} (hl : s.mode.line = some l) (h : s.portD.tx = none) :
    startCycle s = s.started l s.now := by
  unfold startCycle
  rw [hl]
  exact driveD_eq_drives h

/-- An entry into IDLE concerns the Arm Controller alone (R119). -/
theorem enterIdle_eq_idled (k : Station) (s : State) : enterIdle k s = { s with arms := s.arms.idled k } := by
  unfold enterIdle ArmController.idled
  by_cases h : s.arms.stations.get k = .idle <;> simp [h]; rfl

/-- The joined flag re-decided (R69). -/
theorem rejoined_eq_decideJoined (gap : Int) (p : Option LogRecord) (r : LogRecord) :
    r.rejoined gap p = { r with joined := decideJoined gap false p r } := by
  unfold LogRecord.rejoined decideJoined
  cases p with
  | none => rfl
  | some p => cases hl : p.length <;> cases r.joinForced <;> simp [gapTo, hl]; rfl

/-- A bank settled after a release (R90). -/
theorem settle_eq_released (x : Bank) : ({ x with refs := x.refs - 1 } : Bank).settle = x.released := by
  unfold Bank.settle Bank.released
  by_cases h : x.state = .retiring <;> by_cases h' : x.refs ≤ 1 <;> simp [h, h', Nat.sub_eq_zero_iff_le]

/-- The examination of a station in LOCKOUT concerns the Arm Controller alone (R127). -/
theorem examineLockout_eq_unlocked (k : Station) (s : State) :
    examineLockout k s = { s with arms := s.unlocked s.tracker.queue k s.arms } := by
  have hx : (s.tracker.queue.any (fun r => r.across k) = false)
      ↔ ∀ x ∈ s.tracker.queue, ¬ ((x.at k).confirmed ≠ .no ∧ (x.at k).tracked = true ∧ (x.at k).contact = .on) := by
    simp [LogRecord.across, List.any_eq_false, bne_iff_ne]
  unfold examineLockout State.unlocked
  by_cases h : s.follows k = true ∧ s.arms.stations.get k = .lockout ∧ (s.inputs.rotors.get k).under = false
      ∧ s.tracker.queue.any (fun r => r.across k) = false
  · obtain ⟨h1, h2, h3, h4⟩ := h
    rw [if_pos (by simp [h1, h2, h3, h4]), if_pos (by exact ⟨h1, h2, h3, hx.1 h4⟩), enterIdle_eq_idled]
  · rw [if_neg, if_neg (by exact fun c => h ⟨c.1, c.2.1, c.2.2.1, hx.2 c.2.2.2⟩)]
    intro c
    simp only [Bool.and_eq_true, Bool.not_eq_true', beq_iff_eq] at c
    exact h ⟨c.1.1.1, c.1.1.2, c.1.2, c.2⟩

end Sys2Proof.Machine
end

