-- ==== Sys2Proof/Laws/Exchanges.lean ====
section
/-! SUPPORT. What ends and what follows an exchange on Port D, as the claims put it and as the operations do it. -/

namespace Sys2Proof.Machine

/-- A data byte is gathered as the byte it stands for (R3). -/
theorem Receiver.take_of_reads {rx : Receiver} {b v : Byte} (now : Nat) (hp : rx.phase ≠ .hunt) (h : rx.reads b v) :
    rx.take now b = rx.gather now v := by
  rcases h with ⟨he, h1, h2, h3, rfl⟩ | ⟨he, hb, rfl⟩
  · simp [Receiver.take, Receiver.receiving, Config.startByte, Config.idleByte, Config.escByte, hp, he, h1, h2, h3]
  · rcases hb with rfl | rfl | rfl <;>
      simp [Receiver.take, Receiver.receiving, Config.startByte, hp, he]

/-- A byte that makes a frame good makes the receiver report it (R3, R7). -/
theorem Receiver.take_of_completes {rx : Receiver} {b : Byte} {f : Frame} (now : Nat) (h : rx.completes b f) :
    rx.take now b = (rx.hunted, .good f) := by
  obtain ⟨v, len, hp, hl, hr, hf, hc⟩ := h
  have hd : rx.gathered.take len.toNat = (rx.gathered ++ [v]).take len.toNat := by
    rw [List.take_append_of_le_length (by omega)]
  rw [Receiver.take_of_reads now (by simp [hp]) hr]
  simp only [Receiver.gather, hp, List.length_append, hl, List.length_singleton, beq_self_eq_true, if_true,
    Receiver.endBody]
  rw [← hd, ← hf, hc]
  simp [Receiver.hunt, Receiver.hunted]

/-- A byte that ends a frame badly makes the receiver report that, and its report counts as the claim says. -/
theorem Receiver.take_of_spoils {rx r : Receiver} {now : Nat} {b : Byte} {c : Counter} (h : rx.spoils now b r c) :
    ∃ x, rx.take now b = (r, x) ∧ (x = .aborted ∨ x = .headerFailed ∨ x = .crcFailed)
      ∧ ∀ ok, x.counter? ok = some c := by
  obtain ⟨hp, h⟩ := h
  rcases h with ⟨rfl, rfl, rfl⟩ | ⟨hb, rfl, rfl⟩ | ⟨v, b0, b1, b2, b3, hh, hg, hr, hc, rfl, rfl⟩ |
    ⟨v, d, sr, k, len, hh, hl, hr, hc, rfl, rfl⟩
  · exact ⟨.aborted, by simp [Receiver.take, Receiver.receiving, Receiver.beginFrame, Config.startByte, hp], .inl rfl,
      fun _ => rfl⟩
  · refine ⟨.aborted, ?_, .inl rfl, fun _ => rfl⟩
    rcases hb with rfl | ⟨he, h1, h2, h3, h4⟩
    · cases he : rx.escPending <;> simp [Receiver.take, Receiver.receiving, Receiver.hunt, Receiver.hunted,
        Config.startByte, Config.idleByte, hp, he]
    · simp [Receiver.take, Receiver.receiving, Receiver.hunt, Receiver.hunted, Config.startByte, hp, he, h1, h2, h3, h4]
  · refine ⟨.headerFailed, ?_, .inr (.inl rfl), fun _ => rfl⟩
    rw [Receiver.take_of_reads now hp hr]
    simp [Receiver.gather, Receiver.endHeader, Receiver.hunt, Receiver.hunted, hh, hg, hc]
  · refine ⟨.crcFailed, ?_, .inr (.inr rfl), fun _ => rfl⟩
    have hd : rx.gathered.take len.toNat = (rx.gathered ++ [v]).take len.toNat := by
      rw [List.take_append_of_le_length (by omega)]
    rw [Receiver.take_of_reads now hp hr]
    rw [hd] at hc
    simp [Receiver.gather, Receiver.endBody, Receiver.hunt, Receiver.hunted, hh, hl, hc]

/-- A head that fits is driven with the line released (R158). -/
theorem sendHead_eq_drives {u : State} {e : DownEntry} {rest : List DownEntry} (h : u.portD.tx = none) :
    sendHead e rest u = State.drives
      { u with
        switch := { u.switch with down := rest }
        cycle := { u.cycle with phase := .window (.sending e.awaited e.frame.dest), headMiss := 0 } }
      e.frame u.now :=
  driveD_eq_drives h

/-- Sending a head leaves no deferred start to take (R145). -/
theorem takeDeferred_drives {u : State} {f : Frame} {n : Nat} {a : Bool} {d : Byte}
    (h : u.cycle.phase = .window (.sending a d)) : takeDeferred (u.drives f n) = u.drives f n := by
  have hc : (u.drives f n).cycle = u.cycle := by
    unfold State.drives
    dsimp only
    split <;> rfl
  unfold takeDeferred
  rw [hc, h]

/-- Idle or closed forwarding takes a deferred start with the line released (R145). -/
theorem takeDeferred_eq_started {u : State} {l : Line} (hl : u.mode.line = some l) (h : u.portD.tx = none)
    (hp : u.cycle.phase = .window .idle ∨ u.cycle.phase = .window .closed) :
    takeDeferred u = if u.cycle.deferred = true then u.started l u.now else u := by
  unfold takeDeferred
  rcases hp with hp | hp <;> rw [hp] <;> simp only [startCycle_eq_started hl h]

/-- What the claims say of the next head is what the Cycle Master does. -/
theorem nextHead_follows {u : State} {l : Line} (hl : u.mode.line = some l) (h : u.portD.tx = none) :
    u.NextHead l (fun t => nextHead l u = t) := by
  intro e rest due
  refine ⟨fun hd => ?_, fun hd hn => ⟨fun hf => ?_, fun hf => ?_⟩⟩
  · unfold nextHead examineHead
    rw [hd]
    exact takeDeferred_eq_started hl h (.inl rfl)
  · unfold nextHead examineHead
    rw [hd]
    simp only
    rw [if_pos (by simpa [headNeed, wireTime, Config.byteTime, State.remaining, hn] using hf), sendHead_eq_drives h]
    exact takeDeferred_drives rfl
  · unfold nextHead examineHead
    rw [hd]
    simp only
    rw [if_neg (by simpa [headNeed, wireTime, Config.byteTime, State.remaining, hn] using hf)]
    exact takeDeferred_eq_started hl h (.inr rfl)

/-- What the claims say of the end of a report wait is what the Cycle Master does. -/
theorem afterReport_follows {s : State} {l : Line} {k : Station} (hl : s.mode.line = some l) (h : s.portD.tx = none) :
    (endWait s).AfterReportWait l k (fun t => afterReport l k s = t) := by
  have opens : k = .two ∨ l.record.stations ≠ 2 → afterReport l k s = openWindow l (endWait s) := by
    intro hk
    unfold afterReport
    cases k with
    | two => rfl
    | one => simp_all [Line.inUse]
  intro e e' rest rest' due cs
  refine ⟨fun hk hs hc => ?_, fun hk hd => ?_, fun hk hd hf => ?_, fun hk hd hf hm => ?_, fun hk hd hr => ?_,
    fun hk hd hr hf => ?_, fun hk hd hr hf => ?_⟩
  · subst hk
    unfold afterReport sendSetpoint
    simp only [Line.inUse, hs, beq_self_eq_true, if_true]
    rw [driveD_eq_drives (by exact h)]
    have hc' : s.cycle.composed = some cs := hc
    simp only [setpointFrame, setpointPayload, nodeAddr, endWait, hc']
    rfl
  all_goals rw [opens hk]; unfold openWindow openExamine
  · show _ = _
    conv_lhs => rw [hd]
    conv_rhs => rw [← hd]
    exact takeDeferred_eq_started (by exact hl) (by exact h) (.inl rfl)
  · rw [hd.1]
    simp only
    rw [if_pos (by simpa [headNeed, wireTime, Config.byteTime, State.remaining, hd.2] using hf), sendHead_eq_drives (by exact h)]
    exact takeDeferred_drives rfl
  · have hn : ¬ headNeed l e ≤ (endWait s).remaining := by
      simpa [headNeed, wireTime, Config.byteTime, State.remaining, hd.2] using hf
    have hm' : (endWait s).cycle.headMiss + 1 < Config.missLimit := by
      have := hm
      unfold Config.missLimit
      omega
    show _ = _
    conv_lhs => rw [hd.1]
    simp only
    rw [if_neg hn, if_pos hm']
    exact takeDeferred_eq_started (by exact hl) (by exact h) (.inr rfl)
  all_goals
    obtain ⟨⟨hd1, hd2⟩, hf1, hm⟩ := hd
    have hn : ¬ headNeed l e ≤ (endWait s).remaining := by
      simpa [headNeed, wireTime, Config.byteTime, State.remaining, hd2] using hf1
    have hm' : ¬ (endWait s).cycle.headMiss + 1 < Config.missLimit := by
      unfold Config.missLimit
      omega
    rw [hd1]
    simp only
    rw [if_neg hn, if_neg hm', hr]
    simp only
  · exact takeDeferred_eq_started (by exact hl) (by exact h) (.inl rfl)
  · rw [if_pos (by simpa [headNeed, wireTime, Config.byteTime, State.remaining, State.bump, hd2] using hf),
      sendHead_eq_drives (by exact h)]
    exact takeDeferred_drives rfl
  · rw [if_neg (by simpa [headNeed, wireTime, Config.byteTime, State.remaining, State.bump, hd2] using hf)]
    exact takeDeferred_eq_started (by exact hl) (by exact h) (.inr rfl)

/-- What the claims say of a frame offered downstream is what the Frame Switch does. -/
theorem offerDown_follows (u : State) (f : Frame) (awaited : Bool) :
    u.OfferedDown f awaited (fun t => offerDown f awaited u = t) := by
  intro l due
  have he : offerDown f awaited u =
      if u.mode.mode ≠ .unset ∧ (u.switch.down.map (fun e => 4 + e.frame.payload.length)).sum + (4 + f.payload.length) ≤ 1024
      then examineOffered
        { u with switch := { u.switch with down := u.switch.down ++ [{ frame := f, awaited := awaited }] } }
      else u.counted .forwardDropped := by
    unfold offerDown
    have h3 : decide (u.switch.downOccupancy + storedSize f ≤ Config.forwardCapacity) = decide
      ((u.switch.down.map (fun e => 4 + e.frame.payload.length)).sum + (4 + f.payload.length) ≤ 1024) := rfl
    rw [h3]
    by_cases h1 : u.mode.mode = .unset <;> simp [h1, State.counted]
  rw [he]
  refine ⟨fun h => if_neg h, fun h hp => ?_, fun h ht hn => ?_, fun h hn => ?_⟩
  · rw [if_pos h]
    unfold examineOffered
    split
    · next hp' => exact absurd hp' hp
    · rfl
  · obtain ⟨h, hp, hl, hd, he⟩ := h
    rw [if_pos h, he, List.nil_append]
    simp only [examineOffered, hl, hp, examineHead]
    rw [if_pos (by simpa [headNeed, wireTime, Config.byteTime, State.remaining, hd] using hn),
      sendHead_eq_drives (by exact ht)]
    cases u; cases ‹FrameSwitch›; simp_all
  · obtain ⟨h, hp, hl, hd, he⟩ := h
    rw [if_pos h, he, List.nil_append]
    simp only [examineOffered, hl, hp, examineHead]
    rw [if_neg (by simpa [headNeed, wireTime, Config.byteTime, State.remaining, hd] using hn)]
    rfl

/-- What the claims say of the copy of a log frame is what the Frame Switch does. -/
theorem offerCopy_follows {u : State} {l : Line} (f : Frame) (hl : u.mode.line = some l) :
    u.CopyOffered l f (fun t => offerCopy f u = t) := by
  constructor <;> intro h <;> simp only [offerCopy, hl, h]
  · rfl
  · exact offerDown_follows u f false

/-- A byte that completes the reception of a cut at its moment (R162). -/
theorem byteAtCut_of_completes {s : State} {c : CutReception} {b : Byte} {f : Frame} (hc : s.portD.cut = some c)
    (hm : c.moment = s.now) (h : c.rx.completes b f) :
    byteAtCut b s =
      (({ s with portD := { s.portD with cut := none } } : State).bump .dFramesOk).bump .unsolicited := by
  simp [byteAtCut, hc, hm, Receiver.take_of_completes s.now h, endAtCut]

/-- A byte that ends the reception of a cut badly at its moment (R162). -/
theorem byteAtCut_of_spoils {s : State} {c : CutReception} {b : Byte} {r : Receiver} {x : Counter}
    (hc : s.portD.cut = some c) (hm : c.moment = s.now) (h : c.rx.spoils s.now b r x) :
    byteAtCut b s = ({ s with portD := { s.portD with cut := none } } : State).bump x := by
  obtain ⟨rep, hx, hb, hk⟩ := Receiver.take_of_spoils h
  have hk := hk .dFramesOk
  rcases hb with rfl | rfl | rfl <;> simp only [RxReport.counter?, Option.some.injEq] at hk <;> subst hk <;>
    simp [byteAtCut, hc, hm, hx, endAtCut]

/-- What a byte makes the receiver do (R3, R4): begin a frame or nothing in HUNT; else abort, mark an escape, or gather
the data byte it reads. -/
theorem Receiver.take_cases (rx : Receiver) (now : Nat) (b : Byte) :
    (rx.phase = .hunt ∧ ((rx.take now b).2 = .begun ∨ (rx.take now b).2 = .quiet))
    ∨ (rx.phase ≠ .hunt ∧ ((rx.take now b).2 = .aborted ∨ (rx.take now b).2 = .quiet
        ∨ ∃ v, rx.reads b v ∧ rx.take now b = rx.gather now v)) := by
  by_cases hp : rx.phase = .hunt
  · left; refine ⟨hp, ?_⟩
    by_cases h : b = 0xB6#8 <;> simp [Receiver.take, Receiver.receiving, hp, Config.startByte, h]
  · right; refine ⟨hp, ?_⟩
    by_cases h1 : b = 0xB6#8
    · left; simp [Receiver.take, Receiver.receiving, hp, Config.startByte, h1]
    cases he : rx.escPending
    · by_cases h2 : b = 0xB8#8
      · left; simp [Receiver.take, Receiver.receiving, hp, Config.startByte, Config.idleByte, he, h2]
      by_cases h3 : b = 0xB7#8
      · right; left; simp [Receiver.take, Receiver.receiving, hp, Config.startByte, Config.idleByte, Config.escByte, he, h3]
      · have hr : rx.reads b b := .inl ⟨he, h1, h3, h2, rfl⟩
        exact .inr (.inr ⟨b, hr, Receiver.take_of_reads now hp hr⟩)
    · by_cases h2 : b = 0x96#8 ∨ b = 0x97#8 ∨ b = 0x98#8
      · have hr : rx.reads b (b ^^^ 0x20#8) := .inr ⟨he, h2, rfl⟩
        exact .inr (.inr ⟨_, hr, Receiver.take_of_reads now hp hr⟩)
      · left
        simp only [not_or] at h2
        simp [Receiver.take, Receiver.receiving, hp, Config.startByte, he, h1, h2]

/-- What a gathered data byte makes the receiver do (R3, R6, R7): nothing yet, a good header, a good frame or a bad end. -/
theorem Receiver.gather_cases {rx : Receiver} {b v : Byte} (now : Nat) (hr : rx.reads b v) (hp : rx.phase ≠ .hunt) :
    (rx.gather now v).2 = .quiet ∨ (∃ c, (rx.gather now v).2 = .headerGood c) ∨ (∃ f, rx.completes b f)
      ∨ (∃ r x, rx.spoils now b r x) := by
  unfold Receiver.gather
  cases hph : rx.phase with
  | hunt => exact absurd hph hp
  | header =>
    simp only
    split
    · next hl =>
      obtain ⟨b0, b1, b2, b3, hg⟩ : ∃ b0 b1 b2 b3, rx.gathered = [b0, b1, b2, b3] := by
        have hl : rx.gathered.length = 4 := by simpa using hl
        match hq : rx.gathered, hl with
        | [a, b, c, d], _ => exact ⟨a, b, c, d, rfl⟩
      cases hc : checkHeader b0 b1 b2 b3 v with
      | none => exact .inr (.inr (.inr ⟨_, _, hp, .inr (.inr (.inl ⟨v, b0, b1, b2, b3, hph, hg, hr, hc, rfl, rfl⟩))⟩))
      | some g => simp [Receiver.endHeader, hg, hc]
    · exact .inl rfl
  | body d sr k len =>
    simp only
    split
    · next hl =>
      have hl' : rx.gathered.length = len.toNat + 1 := by simpa using hl
      by_cases hc : crcBytes (rx.gathered.take len.toNat) = (rx.gathered ++ [v]).drop len.toNat
      · exact .inr (.inr (.inl ⟨⟨d, sr, k, rx.gathered.take len.toNat⟩, v, len, hph, hl', hr, rfl, hc⟩))
      · exact .inr (.inr (.inr ⟨_, _, hp, .inr (.inr (.inr ⟨v, d, sr, k, len, hph, hl', hr, hc, rfl, rfl⟩))⟩))
    · exact .inl rfl

/-- A byte that does not end the reception of a cut leaves it aborted (R3). -/
theorem byteAtCut_of_neither {s : State} {c : CutReception} {b : Byte} (hc : s.portD.cut = some c)
    (hm : c.moment = s.now) (h : ∀ f, ¬ c.rx.completes b f) (h' : ∀ r x, ¬ c.rx.spoils s.now b r x) :
    byteAtCut b s = ({ s with portD := { s.portD with cut := none } } : State).bump .framesAborted := by
  simp only [byteAtCut, hc, hm, beq_self_eq_true, if_true]
  rcases c.rx.take_cases s.now b with ⟨_, hx | hx⟩ | ⟨hp, hx | hx | ⟨v, hr, hx⟩⟩
  iterate 4 rw [hx]; rfl
  rw [hx]
  rcases Receiver.gather_cases s.now hr hp with hg | ⟨_, hg⟩ | ⟨f, hg⟩ | ⟨r, x, hg⟩
  iterate 2 rw [hg]; rfl
  · exact absurd hg (h f)
  · exact absurd hg (h' r x)

/-- The report of a byte ends a frame exactly when the byte completes it or spoils it at a check. -/
theorem Receiver.ends_iff (rx : Receiver) (now : Nat) (b : Byte) :
    (rx.take now b).2.ends = true
      ↔ (∃ f, rx.completes b f) ∨ ∃ r x, rx.spoils now b r x ∧ x ≠ .framesAborted := by
  constructor
  · intro h
    rcases rx.take_cases now b with ⟨_, hx | hx⟩ | ⟨hp, hx | hx | ⟨v, hr, hx⟩⟩
    iterate 4 rw [hx] at h; cases h
    have hg := Receiver.gather_cases now hr hp
    rw [hx] at h
    rcases hg with hg | ⟨_, hg⟩ | hf | ⟨r, x, hs⟩
    iterate 2 rw [hg] at h; cases h
    · exact .inl hf
    · refine .inr ⟨r, x, hs, ?_⟩
      rintro rfl
      obtain ⟨y, hy, hb, hk⟩ := Receiver.take_of_spoils hs
      have hk := hk .dFramesOk
      rw [← hx, hy] at h
      rcases hb with rfl | rfl | rfl
      · cases h
      · cases hk
      · cases hk
  · rintro (⟨f, hf⟩ | ⟨r, x, hs, hx⟩)
    · rw [Receiver.take_of_completes now hf]; rfl
    · obtain ⟨y, hy, hb, hk⟩ := Receiver.take_of_spoils hs
      have hk := hk .dFramesOk
      rw [hy]
      rcases hb with rfl | rfl | rfl
      · exact absurd (Option.some.inj hk).symm hx
      · rfl
      · rfl

/-- What the claims call the end of a frame with a cut is what the cut finds in the queue. -/
theorem State.endsNow_iff (s : State) : s.EndsNow ↔ (s.portD.rx.receiving && s.lastByteWaits) = true := by
  have hw : s.lastByteWaits = true ↔ ∃ b rest, s.pending = .receiveByte .d b :: rest
      ∧ (s.portD.rx.take s.now b).2.ends = true := by
    unfold State.lastByteWaits
    split
    · next b rest h => simp [h]
    · next h => exact Iff.intro (fun c => by cases c) (fun ⟨b, rest, hb, _⟩ => absurd hb (h b rest))
  simp only [Bool.and_eq_true, hw, Receiver.ends_iff, State.EndsNow]
  refine ⟨fun h => ⟨?_, h⟩, fun h => h.2⟩
  obtain ⟨b, rest, -, ⟨f, v, len, hp, -⟩ | ⟨r, x, ⟨hp, -⟩, -⟩⟩ := h <;> simp [Receiver.receiving, hp]

/-- What a start with the line released that is no cut makes of a reception on Port D: it is aborted and counted once,
whatever byte waits (R3, R4, R14). -/
theorem startCycle_aborts {s : State} {l : Line} (hl : s.mode.line = some l) (h : s.portD.tx = none) :
    (startCycle s).portD.rx.phase = .hunt ∧ (startCycle s).portD.cut = s.portD.cut
    ∧ (startCycle s).requests.counters.get .framesAborted =
        (if s.portD.rx.phase = .hunt then s else s.counted .framesAborted).requests.counters.get .framesAborted := by
  by_cases hr : s.portD.rx.phase = .hunt <;>
    simp [startCycle, hl, h, compose, driveD, abortReception, Receiver.receiving, Receiver.hunt, hr, State.bump, State.counted]

/-- What a cut with the line released makes of a reception on Port D (R3, R161, R162). -/
theorem cutCycle_cutsReception {s : State} {l : Line} (hl : s.mode.line = some l) (h : s.portD.tx = none) :
    s.CutsReception (cutCycle s) := by
  have hi := s.endsNow_iff
  by_cases hr : s.portD.rx.phase = .hunt
  · have he : ¬ s.EndsNow := fun c => by simpa [Receiver.receiving, hr] using hi.1 c
    refine ⟨?_, fun _ => ⟨?_, ?_⟩, fun c => absurd hr c, fun c => absurd c he⟩ <;>
      simp [cutCycle, h, holdReception, Receiver.receiving, hr, startCycle, hl, compose, driveD, abortReception]
  · by_cases hw : s.lastByteWaits = true
    · have he : s.EndsNow := hi.2 (by simp [Receiver.receiving, hr, hw])
      have hw' : ∀ c : CycleMaster, State.lastByteWaits { s with cycle := c } = true := fun _ => hw
      refine ⟨?_, fun c => absurd c hr, fun _ c => absurd he c, fun _ => ⟨?_, ?_⟩⟩ <;>
        simp [cutCycle, h, holdReception, Receiver.receiving, hr, hw', startCycle, hl, compose, driveD, abortReception,
          Receiver.hunt]
    · have he : ¬ s.EndsNow := fun c => hw (by simpa [Receiver.receiving, hr] using hi.1 c)
      have hw' : ∀ c : CycleMaster, State.lastByteWaits { s with cycle := c } = false := fun _ =>
        Bool.eq_false_iff.2 hw
      refine ⟨?_, fun c => absurd c hr, fun _ _ => ⟨?_, ?_⟩, fun c => absurd c he⟩ <;>
        simp [cutCycle, h, holdReception, Receiver.receiving, hr, hw', startCycle, hl, compose, driveD, abortReception,
          Receiver.hunt, State.bump, State.counted]

end Sys2Proof.Machine
end

