-- ==== Sys2Proof/Laws/State.lean ====
section
/-! SUPPORT. One lemma per field for each named update of the state, true by `rfl`, so that no proof
unfolds a record update. -/

namespace Sys2Proof.Machine

/-! ### State.reach -/

@[simp] theorem State.reach_portU (s : State) (n : Nat) : (s.reach n).portU = s.portU := rfl
@[simp] theorem State.reach_portD (s : State) (n : Nat) : (s.reach n).portD = s.portD := rfl
@[simp] theorem State.reach_switch (s : State) (n : Nat) : (s.reach n).switch = s.switch := rfl
@[simp] theorem State.reach_mode (s : State) (n : Nat) : (s.reach n).mode = s.mode := rfl
@[simp] theorem State.reach_tables (s : State) (n : Nat) : (s.reach n).tables = s.tables := rfl
@[simp] theorem State.reach_travel (s : State) (n : Nat) : (s.reach n).travel = s.travel := rfl
@[simp] theorem State.reach_inputs (s : State) (n : Nat) : (s.reach n).inputs = s.inputs := rfl
@[simp] theorem State.reach_tracker (s : State) (n : Nat) : (s.reach n).tracker = s.tracker := rfl
@[simp] theorem State.reach_arms (s : State) (n : Nat) : (s.reach n).arms = s.arms := rfl
@[simp] theorem State.reach_cycle (s : State) (n : Nat) : (s.reach n).cycle = s.cycle := rfl
@[simp] theorem State.reach_requests (s : State) (n : Nat) : (s.reach n).requests = s.requests := rfl
@[simp] theorem State.reach_pending (s : State) (n : Nat) : (s.reach n).pending = s.pending := rfl
@[simp] theorem State.reach_now (s : State) (n : Nat) :
    (s.reach n).now = max s.now n := rfl

/-! ### State.bump -/

@[simp] theorem State.bump_now (s : State) (c : Counter) : (s.bump c).now = s.now := rfl
@[simp] theorem State.bump_portU (s : State) (c : Counter) : (s.bump c).portU = s.portU := rfl
@[simp] theorem State.bump_portD (s : State) (c : Counter) : (s.bump c).portD = s.portD := rfl
@[simp] theorem State.bump_switch (s : State) (c : Counter) : (s.bump c).switch = s.switch := rfl
@[simp] theorem State.bump_mode (s : State) (c : Counter) : (s.bump c).mode = s.mode := rfl
@[simp] theorem State.bump_tables (s : State) (c : Counter) : (s.bump c).tables = s.tables := rfl
@[simp] theorem State.bump_travel (s : State) (c : Counter) : (s.bump c).travel = s.travel := rfl
@[simp] theorem State.bump_inputs (s : State) (c : Counter) : (s.bump c).inputs = s.inputs := rfl
@[simp] theorem State.bump_tracker (s : State) (c : Counter) : (s.bump c).tracker = s.tracker := rfl
@[simp] theorem State.bump_arms (s : State) (c : Counter) : (s.bump c).arms = s.arms := rfl
@[simp] theorem State.bump_cycle (s : State) (c : Counter) : (s.bump c).cycle = s.cycle := rfl
@[simp] theorem State.bump_pending (s : State) (c : Counter) : (s.bump c).pending = s.pending := rfl
@[simp] theorem State.bump_requests_counters (s : State) (c : Counter) :
    (s.bump c).requests.counters = s.requests.counters.bump c := rfl
@[simp] theorem State.bump_requests_replies (s : State) (c : Counter) :
    (s.bump c).requests.replies = s.requests.replies := rfl
@[simp] theorem State.bump_requests_inFlight (s : State) (c : Counter) :
    (s.bump c).requests.inFlight = s.requests.inFlight := rfl

/-! ### State.placeReply -/

@[simp] theorem State.placeReply_now (s : State) (f : Frame) : (s.placeReply f).now = s.now := rfl
@[simp] theorem State.placeReply_portU (s : State) (f : Frame) : (s.placeReply f).portU = s.portU := rfl
@[simp] theorem State.placeReply_portD (s : State) (f : Frame) : (s.placeReply f).portD = s.portD := rfl
@[simp] theorem State.placeReply_switch (s : State) (f : Frame) : (s.placeReply f).switch = s.switch := rfl
@[simp] theorem State.placeReply_mode (s : State) (f : Frame) : (s.placeReply f).mode = s.mode := rfl
@[simp] theorem State.placeReply_tables (s : State) (f : Frame) : (s.placeReply f).tables = s.tables := rfl
@[simp] theorem State.placeReply_travel (s : State) (f : Frame) : (s.placeReply f).travel = s.travel := rfl
@[simp] theorem State.placeReply_inputs (s : State) (f : Frame) : (s.placeReply f).inputs = s.inputs := rfl
@[simp] theorem State.placeReply_tracker (s : State) (f : Frame) : (s.placeReply f).tracker = s.tracker := rfl
@[simp] theorem State.placeReply_arms (s : State) (f : Frame) : (s.placeReply f).arms = s.arms := rfl
@[simp] theorem State.placeReply_cycle (s : State) (f : Frame) : (s.placeReply f).cycle = s.cycle := rfl
@[simp] theorem State.placeReply_pending (s : State) (f : Frame) : (s.placeReply f).pending = s.pending := rfl
@[simp] theorem State.placeReply_requests_counters (s : State) (f : Frame) :
    (s.placeReply f).requests.counters = s.requests.counters := rfl
@[simp] theorem State.placeReply_requests_replies (s : State) (f : Frame) :
    (s.placeReply f).requests.replies = s.requests.replies ++ [f] := rfl
@[simp] theorem State.placeReply_requests_inFlight (s : State) (f : Frame) :
    (s.placeReply f).requests.inFlight = s.requests.inFlight := rfl

/-! ### State.update -/

@[simp] theorem State.update_now (s : State) (id : Nat) (f : LogRecord → LogRecord) : (s.update id f).now = s.now := rfl
@[simp] theorem State.update_portU (s : State) (id : Nat) (f : LogRecord → LogRecord) : (s.update id f).portU = s.portU := rfl
@[simp] theorem State.update_portD (s : State) (id : Nat) (f : LogRecord → LogRecord) : (s.update id f).portD = s.portD := rfl
@[simp] theorem State.update_switch (s : State) (id : Nat) (f : LogRecord → LogRecord) : (s.update id f).switch = s.switch := rfl
@[simp] theorem State.update_mode (s : State) (id : Nat) (f : LogRecord → LogRecord) : (s.update id f).mode = s.mode := rfl
@[simp] theorem State.update_tables (s : State) (id : Nat) (f : LogRecord → LogRecord) : (s.update id f).tables = s.tables := rfl
@[simp] theorem State.update_travel (s : State) (id : Nat) (f : LogRecord → LogRecord) : (s.update id f).travel = s.travel := rfl
@[simp] theorem State.update_inputs (s : State) (id : Nat) (f : LogRecord → LogRecord) : (s.update id f).inputs = s.inputs := rfl
@[simp] theorem State.update_arms (s : State) (id : Nat) (f : LogRecord → LogRecord) : (s.update id f).arms = s.arms := rfl
@[simp] theorem State.update_cycle (s : State) (id : Nat) (f : LogRecord → LogRecord) : (s.update id f).cycle = s.cycle := rfl
@[simp] theorem State.update_requests (s : State) (id : Nat) (f : LogRecord → LogRecord) : (s.update id f).requests = s.requests := rfl
@[simp] theorem State.update_pending (s : State) (id : Nat) (f : LogRecord → LogRecord) : (s.update id f).pending = s.pending := rfl
@[simp] theorem State.update_tracker_queue (s : State) (id : Nat) (f : LogRecord → LogRecord) :
    (s.update id f).tracker.queue = updateRecord id f s.tracker.queue := rfl
@[simp] theorem State.update_tracker_faulted (s : State) (id : Nat) (f : LogRecord → LogRecord) :
    (s.update id f).tracker.faulted = s.tracker.faulted := rfl
@[simp] theorem State.update_tracker_nextId (s : State) (id : Nat) (f : LogRecord → LogRecord) :
    (s.update id f).tracker.nextId = s.tracker.nextId := rfl

/-! ### State.setBank -/

@[simp] theorem State.setBank_now (s : State) (k : BankId) (x : Bank) : (s.setBank k x).now = s.now := rfl
@[simp] theorem State.setBank_portU (s : State) (k : BankId) (x : Bank) : (s.setBank k x).portU = s.portU := rfl
@[simp] theorem State.setBank_portD (s : State) (k : BankId) (x : Bank) : (s.setBank k x).portD = s.portD := rfl
@[simp] theorem State.setBank_switch (s : State) (k : BankId) (x : Bank) : (s.setBank k x).switch = s.switch := rfl
@[simp] theorem State.setBank_mode (s : State) (k : BankId) (x : Bank) : (s.setBank k x).mode = s.mode := rfl
@[simp] theorem State.setBank_travel (s : State) (k : BankId) (x : Bank) : (s.setBank k x).travel = s.travel := rfl
@[simp] theorem State.setBank_inputs (s : State) (k : BankId) (x : Bank) : (s.setBank k x).inputs = s.inputs := rfl
@[simp] theorem State.setBank_tracker (s : State) (k : BankId) (x : Bank) : (s.setBank k x).tracker = s.tracker := rfl
@[simp] theorem State.setBank_arms (s : State) (k : BankId) (x : Bank) : (s.setBank k x).arms = s.arms := rfl
@[simp] theorem State.setBank_cycle (s : State) (k : BankId) (x : Bank) : (s.setBank k x).cycle = s.cycle := rfl
@[simp] theorem State.setBank_requests (s : State) (k : BankId) (x : Bank) : (s.setBank k x).requests = s.requests := rfl
@[simp] theorem State.setBank_pending (s : State) (k : BankId) (x : Bank) : (s.setBank k x).pending = s.pending := rfl
@[simp] theorem State.setBank_tables (s : State) (k : BankId) (x : Bank) :
    (s.setBank k x).tables = s.tables.setBank k x := rfl

/-! ### State.setStation -/

@[simp] theorem State.setStation_now (s : State) (k : Station) (x : StationState) : (s.setStation k x).now = s.now := rfl
@[simp] theorem State.setStation_portU (s : State) (k : Station) (x : StationState) : (s.setStation k x).portU = s.portU := rfl
@[simp] theorem State.setStation_portD (s : State) (k : Station) (x : StationState) : (s.setStation k x).portD = s.portD := rfl
@[simp] theorem State.setStation_switch (s : State) (k : Station) (x : StationState) : (s.setStation k x).switch = s.switch := rfl
@[simp] theorem State.setStation_mode (s : State) (k : Station) (x : StationState) : (s.setStation k x).mode = s.mode := rfl
@[simp] theorem State.setStation_tables (s : State) (k : Station) (x : StationState) : (s.setStation k x).tables = s.tables := rfl
@[simp] theorem State.setStation_travel (s : State) (k : Station) (x : StationState) : (s.setStation k x).travel = s.travel := rfl
@[simp] theorem State.setStation_inputs (s : State) (k : Station) (x : StationState) : (s.setStation k x).inputs = s.inputs := rfl
@[simp] theorem State.setStation_tracker (s : State) (k : Station) (x : StationState) : (s.setStation k x).tracker = s.tracker := rfl
@[simp] theorem State.setStation_cycle (s : State) (k : Station) (x : StationState) : (s.setStation k x).cycle = s.cycle := rfl
@[simp] theorem State.setStation_requests (s : State) (k : Station) (x : StationState) : (s.setStation k x).requests = s.requests := rfl
@[simp] theorem State.setStation_pending (s : State) (k : Station) (x : StationState) : (s.setStation k x).pending = s.pending := rfl
@[simp] theorem State.setStation_arms_stations (s : State) (k : Station) (x : StationState) :
    (s.setStation k x).arms.stations = s.arms.stations.set k x := rfl
@[simp] theorem State.setStation_arms_channels (s : State) (k : Station) (x : StationState) :
    (s.setStation k x).arms.channels = s.arms.channels := rfl

/-! ### State.onChannels -/

@[simp] theorem State.onChannels_now (s : State) (k : Station) (f : List Channel → List Channel) : (s.onChannels k f).now = s.now := rfl
@[simp] theorem State.onChannels_portU (s : State) (k : Station) (f : List Channel → List Channel) : (s.onChannels k f).portU = s.portU := rfl
@[simp] theorem State.onChannels_portD (s : State) (k : Station) (f : List Channel → List Channel) : (s.onChannels k f).portD = s.portD := rfl
@[simp] theorem State.onChannels_switch (s : State) (k : Station) (f : List Channel → List Channel) : (s.onChannels k f).switch = s.switch := rfl
@[simp] theorem State.onChannels_mode (s : State) (k : Station) (f : List Channel → List Channel) : (s.onChannels k f).mode = s.mode := rfl
@[simp] theorem State.onChannels_tables (s : State) (k : Station) (f : List Channel → List Channel) : (s.onChannels k f).tables = s.tables := rfl
@[simp] theorem State.onChannels_travel (s : State) (k : Station) (f : List Channel → List Channel) : (s.onChannels k f).travel = s.travel := rfl
@[simp] theorem State.onChannels_inputs (s : State) (k : Station) (f : List Channel → List Channel) : (s.onChannels k f).inputs = s.inputs := rfl
@[simp] theorem State.onChannels_tracker (s : State) (k : Station) (f : List Channel → List Channel) : (s.onChannels k f).tracker = s.tracker := rfl
@[simp] theorem State.onChannels_cycle (s : State) (k : Station) (f : List Channel → List Channel) : (s.onChannels k f).cycle = s.cycle := rfl
@[simp] theorem State.onChannels_requests (s : State) (k : Station) (f : List Channel → List Channel) : (s.onChannels k f).requests = s.requests := rfl
@[simp] theorem State.onChannels_pending (s : State) (k : Station) (f : List Channel → List Channel) : (s.onChannels k f).pending = s.pending := rfl
@[simp] theorem State.onChannels_arms_stations (s : State) (k : Station) (f : List Channel → List Channel) :
    (s.onChannels k f).arms.stations = s.arms.stations := rfl
@[simp] theorem State.onChannels_arms_channels (s : State) (k : Station) (f : List Channel → List Channel) :
    (s.onChannels k f).arms.channels = s.arms.channels.set k (f (s.arms.channels.get k)) := rfl

/-! ### State.onEye -/

@[simp] theorem State.onEye_now (s : State) (k : Station) (f : Eye → Eye) : (s.onEye k f).now = s.now := rfl
@[simp] theorem State.onEye_portU (s : State) (k : Station) (f : Eye → Eye) : (s.onEye k f).portU = s.portU := rfl
@[simp] theorem State.onEye_portD (s : State) (k : Station) (f : Eye → Eye) : (s.onEye k f).portD = s.portD := rfl
@[simp] theorem State.onEye_switch (s : State) (k : Station) (f : Eye → Eye) : (s.onEye k f).switch = s.switch := rfl
@[simp] theorem State.onEye_mode (s : State) (k : Station) (f : Eye → Eye) : (s.onEye k f).mode = s.mode := rfl
@[simp] theorem State.onEye_tables (s : State) (k : Station) (f : Eye → Eye) : (s.onEye k f).tables = s.tables := rfl
@[simp] theorem State.onEye_travel (s : State) (k : Station) (f : Eye → Eye) : (s.onEye k f).travel = s.travel := rfl
@[simp] theorem State.onEye_tracker (s : State) (k : Station) (f : Eye → Eye) : (s.onEye k f).tracker = s.tracker := rfl
@[simp] theorem State.onEye_arms (s : State) (k : Station) (f : Eye → Eye) : (s.onEye k f).arms = s.arms := rfl
@[simp] theorem State.onEye_cycle (s : State) (k : Station) (f : Eye → Eye) : (s.onEye k f).cycle = s.cycle := rfl
@[simp] theorem State.onEye_requests (s : State) (k : Station) (f : Eye → Eye) : (s.onEye k f).requests = s.requests := rfl
@[simp] theorem State.onEye_pending (s : State) (k : Station) (f : Eye → Eye) : (s.onEye k f).pending = s.pending := rfl
@[simp] theorem State.onEye_inputs_eyes (s : State) (k : Station) (f : Eye → Eye) :
    (s.onEye k f).inputs.eyes = s.inputs.eyes.set k (f (s.inputs.eyes.get k)) := rfl
@[simp] theorem State.onEye_inputs_rotors (s : State) (k : Station) (f : Eye → Eye) :
    (s.onEye k f).inputs.rotors = s.inputs.rotors := rfl
@[simp] theorem State.onEye_inputs_trip (s : State) (k : Station) (f : Eye → Eye) :
    (s.onEye k f).inputs.trip = s.inputs.trip := rfl

/-! ### State.setMode -/

@[simp] theorem State.setMode_now (s : State) (m : Mode) : (s.setMode m).now = s.now := rfl
@[simp] theorem State.setMode_portU (s : State) (m : Mode) : (s.setMode m).portU = s.portU := rfl
@[simp] theorem State.setMode_portD (s : State) (m : Mode) : (s.setMode m).portD = s.portD := rfl
@[simp] theorem State.setMode_switch (s : State) (m : Mode) : (s.setMode m).switch = s.switch := rfl
@[simp] theorem State.setMode_tables (s : State) (m : Mode) : (s.setMode m).tables = s.tables := rfl
@[simp] theorem State.setMode_travel (s : State) (m : Mode) : (s.setMode m).travel = s.travel := rfl
@[simp] theorem State.setMode_inputs (s : State) (m : Mode) : (s.setMode m).inputs = s.inputs := rfl
@[simp] theorem State.setMode_tracker (s : State) (m : Mode) : (s.setMode m).tracker = s.tracker := rfl
@[simp] theorem State.setMode_arms (s : State) (m : Mode) : (s.setMode m).arms = s.arms := rfl
@[simp] theorem State.setMode_cycle (s : State) (m : Mode) : (s.setMode m).cycle = s.cycle := rfl
@[simp] theorem State.setMode_requests (s : State) (m : Mode) : (s.setMode m).requests = s.requests := rfl
@[simp] theorem State.setMode_pending (s : State) (m : Mode) : (s.setMode m).pending = s.pending := rfl
@[simp] theorem State.setMode_mode_mode (s : State) (m : Mode) :
    (s.setMode m).mode.mode = m := rfl
@[simp] theorem State.setMode_mode_cause (s : State) (m : Mode) :
    (s.setMode m).mode.cause = s.mode.cause := rfl
@[simp] theorem State.setMode_mode_line (s : State) (m : Mode) :
    (s.setMode m).mode.line = s.mode.line := rfl
@[simp] theorem State.setMode_mode_ambient (s : State) (m : Mode) :
    (s.setMode m).mode.ambient = s.mode.ambient := rfl

/-! ### State.setNode -/

@[simp] theorem State.setNode_now (s : State) (k : Station) (n : Node) : (s.setNode k n).now = s.now := rfl
@[simp] theorem State.setNode_portU (s : State) (k : Station) (n : Node) : (s.setNode k n).portU = s.portU := rfl
@[simp] theorem State.setNode_portD (s : State) (k : Station) (n : Node) : (s.setNode k n).portD = s.portD := rfl
@[simp] theorem State.setNode_switch (s : State) (k : Station) (n : Node) : (s.setNode k n).switch = s.switch := rfl
@[simp] theorem State.setNode_mode (s : State) (k : Station) (n : Node) : (s.setNode k n).mode = s.mode := rfl
@[simp] theorem State.setNode_tables (s : State) (k : Station) (n : Node) : (s.setNode k n).tables = s.tables := rfl
@[simp] theorem State.setNode_travel (s : State) (k : Station) (n : Node) : (s.setNode k n).travel = s.travel := rfl
@[simp] theorem State.setNode_inputs (s : State) (k : Station) (n : Node) : (s.setNode k n).inputs = s.inputs := rfl
@[simp] theorem State.setNode_tracker (s : State) (k : Station) (n : Node) : (s.setNode k n).tracker = s.tracker := rfl
@[simp] theorem State.setNode_arms (s : State) (k : Station) (n : Node) : (s.setNode k n).arms = s.arms := rfl
@[simp] theorem State.setNode_requests (s : State) (k : Station) (n : Node) : (s.setNode k n).requests = s.requests := rfl
@[simp] theorem State.setNode_pending (s : State) (k : Station) (n : Node) : (s.setNode k n).pending = s.pending := rfl
@[simp] theorem State.setNode_cycle_nodes (s : State) (k : Station) (n : Node) :
    (s.setNode k n).cycle.nodes = s.cycle.nodes.set k n := rfl
@[simp] theorem State.setNode_cycle_phase (s : State) (k : Station) (n : Node) :
    (s.setNode k n).cycle.phase = s.cycle.phase := rfl
@[simp] theorem State.setNode_cycle_number (s : State) (k : Station) (n : Node) :
    (s.setNode k n).cycle.number = s.cycle.number := rfl
@[simp] theorem State.setNode_cycle_nextDue (s : State) (k : Station) (n : Node) :
    (s.setNode k n).cycle.nextDue = s.cycle.nextDue := rfl
@[simp] theorem State.setNode_cycle_composed (s : State) (k : Station) (n : Node) :
    (s.setNode k n).cycle.composed = s.cycle.composed := rfl
@[simp] theorem State.setNode_cycle_headMiss (s : State) (k : Station) (n : Node) :
    (s.setNode k n).cycle.headMiss = s.cycle.headMiss := rfl
@[simp] theorem State.setNode_cycle_wait (s : State) (k : Station) (n : Node) :
    (s.setNode k n).cycle.wait = s.cycle.wait := rfl
@[simp] theorem State.setNode_cycle_deferred (s : State) (k : Station) (n : Node) :
    (s.setNode k n).cycle.deferred = s.cycle.deferred := rfl
@[simp] theorem State.setNode_cycle_cutPending (s : State) (k : Station) (n : Node) :
    (s.setNode k n).cycle.cutPending = s.cycle.cutPending := rfl

/-! ### State.forwarding -/

@[simp] theorem State.forwarding_now (s : State) (f : Forwarding) : (s.forwarding f).now = s.now := rfl
@[simp] theorem State.forwarding_portU (s : State) (f : Forwarding) : (s.forwarding f).portU = s.portU := rfl
@[simp] theorem State.forwarding_portD (s : State) (f : Forwarding) : (s.forwarding f).portD = s.portD := rfl
@[simp] theorem State.forwarding_switch (s : State) (f : Forwarding) : (s.forwarding f).switch = s.switch := rfl
@[simp] theorem State.forwarding_mode (s : State) (f : Forwarding) : (s.forwarding f).mode = s.mode := rfl
@[simp] theorem State.forwarding_tables (s : State) (f : Forwarding) : (s.forwarding f).tables = s.tables := rfl
@[simp] theorem State.forwarding_travel (s : State) (f : Forwarding) : (s.forwarding f).travel = s.travel := rfl
@[simp] theorem State.forwarding_inputs (s : State) (f : Forwarding) : (s.forwarding f).inputs = s.inputs := rfl
@[simp] theorem State.forwarding_tracker (s : State) (f : Forwarding) : (s.forwarding f).tracker = s.tracker := rfl
@[simp] theorem State.forwarding_arms (s : State) (f : Forwarding) : (s.forwarding f).arms = s.arms := rfl
@[simp] theorem State.forwarding_requests (s : State) (f : Forwarding) : (s.forwarding f).requests = s.requests := rfl
@[simp] theorem State.forwarding_pending (s : State) (f : Forwarding) : (s.forwarding f).pending = s.pending := rfl
@[simp] theorem State.forwarding_cycle_number (s : State) (f : Forwarding) :
    (s.forwarding f).cycle.number = s.cycle.number := rfl
@[simp] theorem State.forwarding_cycle_phase (s : State) (f : Forwarding) :
    (s.forwarding f).cycle.phase = .window f := rfl
@[simp] theorem State.forwarding_cycle_nextDue (s : State) (f : Forwarding) :
    (s.forwarding f).cycle.nextDue = s.cycle.nextDue := rfl
@[simp] theorem State.forwarding_cycle_composed (s : State) (f : Forwarding) :
    (s.forwarding f).cycle.composed = s.cycle.composed := rfl
@[simp] theorem State.forwarding_cycle_nodes (s : State) (f : Forwarding) :
    (s.forwarding f).cycle.nodes = s.cycle.nodes := rfl
@[simp] theorem State.forwarding_cycle_headMiss (s : State) (f : Forwarding) :
    (s.forwarding f).cycle.headMiss = s.cycle.headMiss := rfl
@[simp] theorem State.forwarding_cycle_wait (s : State) (f : Forwarding) :
    (s.forwarding f).cycle.wait = s.cycle.wait := rfl
@[simp] theorem State.forwarding_cycle_deferred (s : State) (f : Forwarding) :
    (s.forwarding f).cycle.deferred = s.cycle.deferred := rfl
@[simp] theorem State.forwarding_cycle_cutPending (s : State) (f : Forwarding) :
    (s.forwarding f).cycle.cutPending = s.cycle.cutPending := rfl

/-! ### beginWait -/

@[simp] theorem beginWait_now (s : State) : (beginWait s).now = s.now := rfl
@[simp] theorem beginWait_portU (s : State) : (beginWait s).portU = s.portU := rfl
@[simp] theorem beginWait_portD (s : State) : (beginWait s).portD = s.portD := rfl
@[simp] theorem beginWait_switch (s : State) : (beginWait s).switch = s.switch := rfl
@[simp] theorem beginWait_mode (s : State) : (beginWait s).mode = s.mode := rfl
@[simp] theorem beginWait_tables (s : State) : (beginWait s).tables = s.tables := rfl
@[simp] theorem beginWait_travel (s : State) : (beginWait s).travel = s.travel := rfl
@[simp] theorem beginWait_inputs (s : State) : (beginWait s).inputs = s.inputs := rfl
@[simp] theorem beginWait_tracker (s : State) : (beginWait s).tracker = s.tracker := rfl
@[simp] theorem beginWait_arms (s : State) : (beginWait s).arms = s.arms := rfl
@[simp] theorem beginWait_requests (s : State) : (beginWait s).requests = s.requests := rfl
@[simp] theorem beginWait_pending (s : State) : (beginWait s).pending = s.pending := rfl
@[simp] theorem beginWait_cycle_number (s : State) :
    (beginWait s).cycle.number = s.cycle.number := rfl
@[simp] theorem beginWait_cycle_phase (s : State) :
    (beginWait s).cycle.phase = s.cycle.phase := rfl
@[simp] theorem beginWait_cycle_nextDue (s : State) :
    (beginWait s).cycle.nextDue = s.cycle.nextDue := rfl
@[simp] theorem beginWait_cycle_composed (s : State) :
    (beginWait s).cycle.composed = s.cycle.composed := rfl
@[simp] theorem beginWait_cycle_nodes (s : State) :
    (beginWait s).cycle.nodes = s.cycle.nodes := rfl
@[simp] theorem beginWait_cycle_headMiss (s : State) :
    (beginWait s).cycle.headMiss = s.cycle.headMiss := rfl
@[simp] theorem beginWait_cycle_wait (s : State) :
    (beginWait s).cycle.wait = some { released := s.now, begun := false } := rfl
@[simp] theorem beginWait_cycle_deferred (s : State) :
    (beginWait s).cycle.deferred = s.cycle.deferred := rfl
@[simp] theorem beginWait_cycle_cutPending (s : State) :
    (beginWait s).cycle.cutPending = s.cycle.cutPending := rfl

/-! ### endWait -/

@[simp] theorem endWait_now (s : State) : (endWait s).now = s.now := rfl
@[simp] theorem endWait_portU (s : State) : (endWait s).portU = s.portU := rfl
@[simp] theorem endWait_portD (s : State) : (endWait s).portD = s.portD := rfl
@[simp] theorem endWait_switch (s : State) : (endWait s).switch = s.switch := rfl
@[simp] theorem endWait_mode (s : State) : (endWait s).mode = s.mode := rfl
@[simp] theorem endWait_tables (s : State) : (endWait s).tables = s.tables := rfl
@[simp] theorem endWait_travel (s : State) : (endWait s).travel = s.travel := rfl
@[simp] theorem endWait_inputs (s : State) : (endWait s).inputs = s.inputs := rfl
@[simp] theorem endWait_tracker (s : State) : (endWait s).tracker = s.tracker := rfl
@[simp] theorem endWait_arms (s : State) : (endWait s).arms = s.arms := rfl
@[simp] theorem endWait_requests (s : State) : (endWait s).requests = s.requests := rfl
@[simp] theorem endWait_pending (s : State) : (endWait s).pending = s.pending := rfl
@[simp] theorem endWait_cycle_number (s : State) :
    (endWait s).cycle.number = s.cycle.number := rfl
@[simp] theorem endWait_cycle_phase (s : State) :
    (endWait s).cycle.phase = s.cycle.phase := rfl
@[simp] theorem endWait_cycle_nextDue (s : State) :
    (endWait s).cycle.nextDue = s.cycle.nextDue := rfl
@[simp] theorem endWait_cycle_composed (s : State) :
    (endWait s).cycle.composed = s.cycle.composed := rfl
@[simp] theorem endWait_cycle_nodes (s : State) :
    (endWait s).cycle.nodes = s.cycle.nodes := rfl
@[simp] theorem endWait_cycle_headMiss (s : State) :
    (endWait s).cycle.headMiss = s.cycle.headMiss := rfl
@[simp] theorem endWait_cycle_wait (s : State) :
    (endWait s).cycle.wait = none := rfl
@[simp] theorem endWait_cycle_deferred (s : State) :
    (endWait s).cycle.deferred = s.cycle.deferred := rfl
@[simp] theorem endWait_cycle_cutPending (s : State) :
    (endWait s).cycle.cutPending = s.cycle.cutPending := rfl

/-! ### Pairs and banks -/

@[simp] theorem Pair.get_set_same {α : Type} (p : Pair α) (k : Station) (x : α) : (p.set k x).get k = x := by
  cases k <;> rfl

theorem Pair.get_set {α : Type} (p : Pair α) (j k : Station) (x : α) :
    (p.set k x).get j = if j = k then x else p.get j := by
  cases j <;> cases k <;> rfl

@[simp] theorem Pair.set_get {α : Type} (p : Pair α) (k : Station) : p.set k (p.get k) = p := by
  cases k <;> rfl

@[simp] theorem TableStore.bank_setBank_same (t : TableStore) (k : BankId) (x : Bank) : (t.setBank k x).bank k = x := by
  cases k <;> rfl

theorem TableStore.bank_setBank (t : TableStore) (j k : BankId) (x : Bank) :
    (t.setBank k x).bank j = if j = k then x else t.bank j := by
  cases j <;> cases k <;> rfl

@[simp] theorem TableStore.setBank_mark (t : TableStore) (k : BankId) (x : Bank) : (t.setBank k x).mark = t.mark := by
  cases k <;> rfl

@[simp] theorem TableStore.setBank_copy (t : TableStore) (k : BankId) (x : Bank) : (t.setBank k x).copy = t.copy := by
  cases k <;> rfl

@[simp] theorem LogRecord.setAt_at (r : LogRecord) (k : Station) (x : Standing) : (r.setAt k x).at k = x := by
  cases k <;> rfl

@[simp] theorem LogRecord.setAt_id (r : LogRecord) (k : Station) (x : Standing) : (r.setAt k x).id = r.id := by
  cases k <;> rfl

@[simp] theorem LogRecord.setAt_bank (r : LogRecord) (k : Station) (x : Standing) : (r.setAt k x).bank = r.bank := by
  cases k <;> rfl

@[simp] theorem BankId.other_other (k : BankId) : k.other.other = k := by cases k <;> rfl

theorem BankId.other_ne (k : BankId) : k.other ≠ k := by cases k <;> simp [BankId.other]

end Sys2Proof.Machine
end

