-- ==== Sys2Proof/Laws/Frames.lean ====
section
/-! SUPPORT. What the shared operations can change. Three relations say what each group of operations leaves
alone: the station machines change the Arm Controller only, the Log Tracker its own queue, the banks, the
stations, the counters and the end of FINISHING, the Cycle Master its own state and Port D. -/

namespace Sys2Proof.Machine

/-! ## The station machines -/

/-- Only the Arm Controller differs. -/
def ArmsOnly (s t : State) : Prop := t = { s with arms := t.arms }

theorem ArmsOnly.refl (s : State) : ArmsOnly s s := rfl

theorem ArmsOnly.trans {s t u : State} (h : ArmsOnly s t) (g : ArmsOnly t u) : ArmsOnly s u := by
  unfold ArmsOnly at *; rw [g, h]

theorem setStation_armsOnly (s : State) (k : Station) (x : StationState) : ArmsOnly s (s.setStation k x) := rfl

theorem onChannels_armsOnly (s : State) (k : Station) (f : List Channel → List Channel) :
    ArmsOnly s (s.onChannels k f) := rfl

theorem enterIdle_armsOnly (k : Station) (s : State) : ArmsOnly s (enterIdle k s) := by
  unfold enterIdle; split <;> rfl

theorem stationsIdle_armsOnly (s : State) : ArmsOnly s (stationsIdle s) :=
  (enterIdle_armsOnly _ _).trans (enterIdle_armsOnly _ _)

theorem examineLockout_armsOnly (k : Station) (s : State) : ArmsOnly s (examineLockout k s) := by
  unfold examineLockout; split
  · exact enterIdle_armsOnly _ _
  · rfl

theorem dropEngaged_armsOnly (id : Nat) (k : Station) (s : State) : ArmsOnly s (dropEngaged id k s) := by
  unfold dropEngaged; split
  · exact enterIdle_armsOnly _ _
  · rfl

theorem buttReaches_armsOnly (k : Station) (r : LogRecord) (s : State) : ArmsOnly s (buttReaches k r s) := by
  unfold buttReaches; split <;> rfl

theorem passOn_armsOnly (k : Station) (id : Nat) (s : State) : ArmsOnly s (passOn k id s) := by
  unfold passOn
  split
  · split
    · rfl
    · exact enterIdle_armsOnly _ _
  · exact enterIdle_armsOnly _ _

theorem tailPasses_armsOnly (k : Station) (id : Nat) (s : State) : ArmsOnly s (tailPasses k id s) := by
  unfold tailPasses
  split
  · split
    · split
      · exact passOn_armsOnly _ _ _
      · rfl
    · exact examineLockout_armsOnly _ _
    · rfl
  · rfl

theorem backsOut_armsOnly (k : Station) (id : Nat) (s : State) : ArmsOnly s (backsOut k id s) := by
  unfold backsOut
  split
  · split
    · split
      · exact enterIdle_armsOnly _ _
      · rfl
    · exact examineLockout_armsOnly _ _
    · rfl
  · rfl

theorem contactEvents_armsOnly (k : Station) (r : LogRecord) (was now : ContactPos) (s : State) :
    ArmsOnly s (contactEvents k r was now s).1 := by
  unfold contactEvents
  split
  · exact buttReaches_armsOnly _ _ _
  · exact tailPasses_armsOnly _ _ _
  · exact backsOut_armsOnly _ _ _
  · exact (buttReaches_armsOnly _ _ _).trans (tailPasses_armsOnly _ _ _)
  · exact backsOut_armsOnly _ _ _
  · rfl

theorem stationAtRun_armsOnly (k : Station) (s : State) : ArmsOnly s (stationAtRun k s) := by
  unfold stationAtRun; split <;> rfl

/-- What `enterIdle` leaves: the station IDLE, the other station and its channels as they were. -/
theorem enterIdle_stations (k : Station) (s : State) :
    (enterIdle k s).arms.stations = s.arms.stations.set k .idle := by
  unfold enterIdle
  split
  · rename_i h
    have h' : s.arms.stations.get k = .idle := by simpa using h
    rw [← h', Pair.set_get]
  · rfl

/-- After `dropEngaged` the station is not ENGAGED with the record (R117, log 31). -/
theorem dropEngaged_stations (id : Nat) (k : Station) (s : State) :
    (dropEngaged id k s).arms.stations.get k ≠ .engaged id := by
  unfold dropEngaged
  split
  · rw [enterIdle_stations]; cases k <;> simp
  · rename_i h
    simpa using h

theorem stationsIdle_stations (s : State) : (stationsIdle s).arms.stations = { one := .idle, two := .idle } := by
  unfold stationsIdle
  rw [enterIdle_stations, enterIdle_stations]
  rfl

/-! ## The Log Tracker -/

/-- What the Log Tracker's operations leave alone. The mode changes at the end of FINISHING only (R19). -/
structure LogFrame (s t : State) : Prop where
  now : t.now = s.now
  portU : t.portU = s.portU
  portD : t.portD = s.portD
  switch : t.switch = s.switch
  cause : t.mode.cause = s.mode.cause
  line : t.mode.line = s.mode.line
  ambient : t.mode.ambient = s.mode.ambient
  mode : t.mode.mode = s.mode.mode ∨ s.mode.mode = .finishing ∧ t.mode.mode = .standby
  mark : t.tables.mark = s.tables.mark
  copy : t.tables.copy = s.tables.copy
  travel : t.travel = s.travel
  inputs : t.inputs = s.inputs
  cycle : t.cycle = s.cycle
  replies : t.requests.replies = s.requests.replies
  inFlight : t.requests.inFlight = s.requests.inFlight
  pending : t.pending = s.pending

theorem LogFrame.refl (s : State) : LogFrame s s :=
  ⟨rfl, rfl, rfl, rfl, rfl, rfl, rfl, .inl rfl, rfl, rfl, rfl, rfl, rfl, rfl, rfl, rfl⟩

theorem LogFrame.trans {s t u : State} (h : LogFrame s t) (g : LogFrame t u) : LogFrame s u where
  now := g.now.trans h.now
  portU := g.portU.trans h.portU
  portD := g.portD.trans h.portD
  switch := g.switch.trans h.switch
  cause := g.cause.trans h.cause
  line := g.line.trans h.line
  ambient := g.ambient.trans h.ambient
  mode := by
    rcases h.mode with h | ⟨h1, h2⟩ <;> rcases g.mode with g | ⟨g1, g2⟩
    · exact .inl (g.trans h)
    · exact .inr ⟨h.symm.trans g1, g2⟩
    · exact .inr ⟨h1, g.trans h2⟩
    · exact .inr ⟨h1, g2⟩
  mark := g.mark.trans h.mark
  copy := g.copy.trans h.copy
  travel := g.travel.trans h.travel
  inputs := g.inputs.trans h.inputs
  cycle := g.cycle.trans h.cycle
  replies := g.replies.trans h.replies
  inFlight := g.inFlight.trans h.inFlight
  pending := g.pending.trans h.pending

theorem ArmsOnly.logFrame {s t : State} (h : ArmsOnly s t) : LogFrame s t := by
  rw [h]; exact ⟨rfl, rfl, rfl, rfl, rfl, rfl, rfl, .inl rfl, rfl, rfl, rfl, rfl, rfl, rfl, rfl, rfl⟩

theorem update_logFrame (s : State) (id : Nat) (f : LogRecord → LogRecord) : LogFrame s (s.update id f) :=
  ⟨rfl, rfl, rfl, rfl, rfl, rfl, rfl, .inl rfl, rfl, rfl, rfl, rfl, rfl, rfl, rfl, rfl⟩

theorem tracker_logFrame (s : State) (x : LogTracker) : LogFrame s { s with tracker := x } :=
  ⟨rfl, rfl, rfl, rfl, rfl, rfl, rfl, .inl rfl, rfl, rfl, rfl, rfl, rfl, rfl, rfl, rfl⟩

theorem bump_logFrame (s : State) (c : Counter) : LogFrame s (s.bump c) :=
  ⟨rfl, rfl, rfl, rfl, rfl, rfl, rfl, .inl rfl, rfl, rfl, rfl, rfl, rfl, rfl, rfl, rfl⟩

theorem bump?_logFrame (s : State) (c : Option Counter) : LogFrame s (s.bump? c) := by
  cases c
  · exact LogFrame.refl _
  · exact bump_logFrame _ _

theorem setBank_logFrame (s : State) (k : BankId) (x : Bank) : LogFrame s (s.setBank k x) :=
  ⟨rfl, rfl, rfl, rfl, rfl, rfl, rfl, .inl rfl, by simp, by simp, rfl, rfl, rfl, rfl, rfl, rfl⟩

theorem bindBank_logFrame (s : State) (k : BankId) : LogFrame s (bindBank s k) := setBank_logFrame _ _ _

theorem releaseBank_logFrame (s : State) (k : BankId) : LogFrame s (releaseBank s k) := setBank_logFrame _ _ _

theorem rejoin_logFrame (l : Line) (fresh : Bool) (id : Nat) (s : State) : LogFrame s (rejoin l fresh id s) :=
  update_logFrame _ _ _

theorem rejoinSuccessor_logFrame (l : Line) (id : Nat) (s : State) : LogFrame s (rejoinSuccessor l id s) := by
  unfold rejoinSuccessor; split
  · exact rejoin_logFrame _ _ _ _
  · exact LogFrame.refl _

theorem endFinishing_logFrame (s : State) : LogFrame s (endFinishing s) := by
  unfold endFinishing
  split
  · rename_i h
    have hm : s.mode.mode = .finishing := by simpa using (Bool.and_eq_true_iff.1 h).1
    refine LogFrame.trans ?_ (stationsIdle_armsOnly _).logFrame
    exact ⟨rfl, rfl, rfl, rfl, rfl, rfl, rfl, .inr ⟨hm, rfl⟩, rfl, rfl, rfl, rfl, rfl, rfl, rfl, rfl⟩
  · exact LogFrame.refl _

theorem removeRecord_logFrame (l : Line) (id : Nat) (why : Removal) (s : State) :
    LogFrame s (removeRecord l id why s) := by
  unfold removeRecord
  split
  · exact LogFrame.refl _
  · rename_i r _
    refine LogFrame.trans ?_ (endFinishing_logFrame _)
    refine LogFrame.trans ?_ (examineLockout_armsOnly _ _).logFrame
    refine LogFrame.trans ?_ (examineLockout_armsOnly _ _).logFrame
    refine LogFrame.trans ?_ (dropEngaged_armsOnly _ _ _).logFrame
    refine LogFrame.trans ?_ (dropEngaged_armsOnly _ _ _).logFrame
    refine LogFrame.trans ?_ (bump?_logFrame _ _)
    refine LogFrame.trans (tracker_logFrame s { s.tracker with queue := s.tracker.queue.filter (·.id != id) }) ?_
    refine LogFrame.trans (releaseBank_logFrame _ r.bank) ?_
    dsimp only
    split
    · split
      · exact rejoin_logFrame _ _ _ _
      · exact LogFrame.refl _
    · exact LogFrame.refl _

theorem releasePending_logFrame (l : Line) (id : Nat) (s : State) : LogFrame s (releasePending l id s) := by
  unfold releasePending
  split
  · split
    · exact removeRecord_logFrame _ _ _ _
    · exact LogFrame.refl _
  · exact LogFrame.refl _

theorem closeWindow_logFrame (k : Station) (id : Nat) (s : State) : LogFrame s (closeWindow k id s).1 := by
  unfold closeWindow
  dsimp only
  split
  · exact update_logFrame _ _ _
  · split
    · exact update_logFrame _ _ _
    · exact LogFrame.refl _

theorem windowStep_logFrame (l : Line) (k : Station) (id : Nat) (s : State) : LogFrame s (windowStep l k id s).1 := by
  unfold windowStep
  split
  · exact LogFrame.refl _
  · dsimp only
    split
    · exact (update_logFrame _ _ _).trans (closeWindow_logFrame _ _ _)
    · exact update_logFrame _ _ _

theorem contactStep_logFrame (l : Line) (k : Station) (id : Nat) (s : State) : LogFrame s (contactStep l k id s).1 := by
  unfold contactStep
  split
  · exact LogFrame.refl _
  · dsimp only
    split
    · exact (update_logFrame _ _ _).trans (contactEvents_armsOnly _ _ _ _ _).logFrame
    · exact update_logFrame _ _ _

theorem stationStep_logFrame (l : Line) (id : Nat) (k : Station) (a : State × Fate) :
    LogFrame a.1 (stationStep l id k a).1 := by
  unfold stationStep
  split
  · dsimp only
    split
    · exact (windowStep_logFrame _ _ _ _).trans (contactStep_logFrame _ _ _ _)
    · exact windowStep_logFrame _ _ _ _
  · exact LogFrame.refl _

theorem limitLength_logFrame (l : Line) (id : Nat) (s : State) : LogFrame s (limitLength l id s) := by
  unfold limitLength
  split
  · exact LogFrame.refl _
  · split
    · exact (update_logFrame _ _ _).trans (rejoinSuccessor_logFrame _ _ _)
    · exact LogFrame.refl _

theorem settleFate_logFrame (l : Line) (id : Nat) (a : State × Fate) : LogFrame a.1 (settleFate l id a) := by
  unfold settleFate
  split
  · exact removeRecord_logFrame _ _ _ _
  · exact removeRecord_logFrame _ _ _ _
  · exact releasePending_logFrame _ _ _

theorem foldl_stationStep_logFrame (l : Line) (id : Nat) (ks : List Station) (a : State × Fate) :
    LogFrame a.1 (ks.foldl (fun a k => stationStep l id k a) a).1 := by
  induction ks generalizing a with
  | nil => exact LogFrame.refl _
  | cons k ks ih => exact (stationStep_logFrame l id k a).trans (ih _)

theorem reevaluate_logFrame (l : Line) (s : State) (id : Nat) : LogFrame s (reevaluate l s id) := by
  unfold reevaluate
  refine (limitLength_logFrame l id s).trans (LogFrame.trans ?_ (settleFate_logFrame _ _ _))
  exact foldl_stationStep_logFrame l id l.used (limitLength l id s, .stays)

theorem foldl_reevaluate_logFrame (l : Line) (ids : List Nat) (s : State) :
    LogFrame s (ids.foldl (reevaluate l) s) := by
  induction ids generalizing s with
  | nil => exact LogFrame.refl _
  | cons i ids ih => exact (reevaluate_logFrame l s i).trans (ih _)

theorem travelChanged_logFrame (s : State) : LogFrame s (travelChanged s) := by
  unfold travelChanged
  split
  · exact LogFrame.refl _
  · exact foldl_reevaluate_logFrame _ _ _

theorem appendRecord_logFrame (l : Line) (r : LogRecord) (s : State) : LogFrame s (appendRecord l r s) := by
  unfold appendRecord
  exact ((tracker_logFrame s _).trans (bindBank_logFrame _ _)).trans (rejoin_logFrame _ _ _ _)

theorem takeScan_logFrame (p : List Byte) (s : State) : LogFrame s (takeScan p s) := by
  unfold takeScan
  split
  · split
    · dsimp only
      split
      · exact bump_logFrame _ _
      · split
        · exact bump_logFrame _ _
        · exact appendRecord_logFrame _ _ _
    · exact bump_logFrame _ _
  · exact bump_logFrame _ _

theorem takeVoid_logFrame (p : List Byte) (s : State) : LogFrame s (takeVoid p s) := by
  unfold takeVoid
  split
  · exact removeRecord_logFrame _ _ _ _
  · exact bump_logFrame _ _

theorem confirmByEye_logFrame (l : Line) (k : Station) (id : Nat) (s : State) :
    LogFrame s (confirmByEye l k id s) := by
  unfold confirmByEye
  dsimp only
  split
  · split
    · refine LogFrame.trans ?_ (rejoinSuccessor_logFrame _ _ _)
      refine LogFrame.trans ?_ (rejoin_logFrame _ _ _ _)
      exact ((update_logFrame _ _ _).trans (update_logFrame _ _ _)).trans (reevaluate_logFrame _ _ _)
    · exact ((update_logFrame _ _ _).trans (update_logFrame _ _ _)).trans (reevaluate_logFrame _ _ _)
  · exact update_logFrame _ _ _

theorem addSynthetic_logFrame (l : Line) (r : LogRecord) (s : State) : LogFrame s (addSynthetic l r s) := by
  unfold addSynthetic
  refine LogFrame.trans ?_ (bump_logFrame _ _)
  refine LogFrame.trans ?_ (rejoinSuccessor_logFrame _ _ _)
  exact ((tracker_logFrame s _).trans (bindBank_logFrame _ _)).trans (rejoin_logFrame _ _ _ _)

theorem unscannedLog_logFrame (l : Line) (k : Station) (s : State) : LogFrame s (unscannedLog l k s) := by
  unfold unscannedLog
  dsimp only
  split
  · exact LogFrame.refl _
  · split
    · exact LogFrame.refl _
    · split
      · exact bump_logFrame _ _
      · exact addSynthetic_logFrame _ _ _

theorem risingEdge_logFrame (k : Station) (s : State) : LogFrame s (risingEdge k s) := by
  unfold risingEdge
  split
  · exact LogFrame.refl _
  · split
    · split
      · exact confirmByEye_logFrame _ _ _ _
      · split
        · exact LogFrame.refl _
        · exact unscannedLog_logFrame _ _ _
    · exact LogFrame.refl _

theorem fallingEdge_logFrame (k : Station) (s : State) : LogFrame s (fallingEdge k s) := by
  unfold fallingEdge
  split
  · exact LogFrame.refl _
  · split
    · split
      · dsimp only
        split
        · unfold measure
          exact ((update_logFrame _ _ _).trans (rejoinSuccessor_logFrame _ _ _)).trans (reevaluate_logFrame _ _ _)
        · exact LogFrame.refl _
      · exact LogFrame.refl _
    · exact LogFrame.refl _

theorem markFaulted_logFrame (k : Station) (f : Bool) (s : State) : LogFrame s (markFaulted k f s) := by
  unfold markFaulted
  split
  · split
    · exact tracker_logFrame _ _
    · exact LogFrame.refl _
  · exact LogFrame.refl _

/-- A flush touches the queue, the bank counts and the stations (R22). -/
theorem flush_logFrame (s : State) : LogFrame s (flush s) := by
  unfold flush
  refine LogFrame.trans ?_ (stationsIdle_armsOnly _).logFrame
  exact ⟨rfl, rfl, rfl, rfl, rfl, rfl, rfl, .inl rfl, rfl, rfl, rfl, rfl, rfl, rfl, rfl, rfl⟩

@[simp] theorem flush_queue (s : State) : (flush s).tracker.queue = [] := by
  unfold flush; rw [stationsIdle_armsOnly]

theorem flush_stations (s : State) : (flush s).arms.stations = { one := .idle, two := .idle } :=
  stationsIdle_stations _

/-! ## The Cycle Master -/

/-- What the Cycle Master's operations leave alone: all but the channels, Port D, the cycle's own state, the
downstream queue and the counters. -/
structure CycleFrame (s t : State) : Prop where
  now : t.now = s.now
  portU : t.portU = s.portU
  ownAddr : t.switch.ownAddr = s.switch.ownAddr
  up : t.switch.up = s.switch.up
  source : t.switch.mark = s.switch.mark
  mode : t.mode = s.mode
  tables : t.tables = s.tables
  travel : t.travel = s.travel
  inputs : t.inputs = s.inputs
  tracker : t.tracker = s.tracker
  stations : t.arms.stations = s.arms.stations
  nodes : t.cycle.nodes = s.cycle.nodes
  replies : t.requests.replies = s.requests.replies
  inFlight : t.requests.inFlight = s.requests.inFlight
  pending : t.pending = s.pending

theorem CycleFrame.refl (s : State) : CycleFrame s s :=
  ⟨rfl, rfl, rfl, rfl, rfl, rfl, rfl, rfl, rfl, rfl, rfl, rfl, rfl, rfl, rfl⟩

theorem CycleFrame.trans {s t u : State} (h : CycleFrame s t) (g : CycleFrame t u) : CycleFrame s u where
  now := g.now.trans h.now
  portU := g.portU.trans h.portU
  ownAddr := g.ownAddr.trans h.ownAddr
  up := g.up.trans h.up
  source := g.source.trans h.source
  mode := g.mode.trans h.mode
  tables := g.tables.trans h.tables
  travel := g.travel.trans h.travel
  inputs := g.inputs.trans h.inputs
  tracker := g.tracker.trans h.tracker
  stations := g.stations.trans h.stations
  nodes := g.nodes.trans h.nodes
  replies := g.replies.trans h.replies
  inFlight := g.inFlight.trans h.inFlight
  pending := g.pending.trans h.pending

theorem bump_cycleFrame (s : State) (c : Counter) : CycleFrame s (s.bump c) :=
  ⟨rfl, rfl, rfl, rfl, rfl, rfl, rfl, rfl, rfl, rfl, rfl, rfl, rfl, rfl, rfl⟩

theorem forwarding_cycleFrame (s : State) (f : Forwarding) : CycleFrame s (s.forwarding f) :=
  ⟨rfl, rfl, rfl, rfl, rfl, rfl, rfl, rfl, rfl, rfl, rfl, rfl, rfl, rfl, rfl⟩

theorem endWait_cycleFrame (s : State) : CycleFrame s (endWait s) :=
  ⟨rfl, rfl, rfl, rfl, rfl, rfl, rfl, rfl, rfl, rfl, rfl, rfl, rfl, rfl, rfl⟩

theorem beginWait_cycleFrame (s : State) : CycleFrame s (beginWait s) :=
  ⟨rfl, rfl, rfl, rfl, rfl, rfl, rfl, rfl, rfl, rfl, rfl, rfl, rfl, rfl, rfl⟩

theorem abortReception_cycleFrame (s : State) : CycleFrame s (abortReception s) := by
  unfold abortReception; split <;> exact ⟨rfl, rfl, rfl, rfl, rfl, rfl, rfl, rfl, rfl, rfl, rfl, rfl, rfl, rfl, rfl⟩

theorem driveD_cycleFrame (f : Frame) (s : State) : CycleFrame s (driveD f s) := by
  unfold driveD
  split
  · exact ⟨rfl, rfl, rfl, rfl, rfl, rfl, rfl, rfl, rfl, rfl, rfl, rfl, rfl, rfl, rfl⟩
  · refine (abortReception_cycleFrame s).trans ?_
    exact ⟨rfl, rfl, rfl, rfl, rfl, rfl, rfl, rfl, rfl, rfl, rfl, rfl, rfl, rfl, rfl⟩

theorem startCycle_cycleFrame (s : State) : CycleFrame s (startCycle s) := by
  unfold startCycle
  split
  · exact CycleFrame.refl _
  · refine CycleFrame.trans ?_ (driveD_cycleFrame _ _)
    exact ⟨rfl, rfl, rfl, rfl, rfl, rfl, rfl, rfl, rfl, rfl, rfl, rfl, rfl, rfl, rfl⟩

theorem holdReception_cycleFrame (s : State) : CycleFrame s (holdReception s) := by
  unfold holdReception; split <;> exact ⟨rfl, rfl, rfl, rfl, rfl, rfl, rfl, rfl, rfl, rfl, rfl, rfl, rfl, rfl, rfl⟩

theorem cutCycle_cycleFrame (s : State) : CycleFrame s (cutCycle s) := by
  unfold cutCycle
  dsimp only
  split
  · exact ⟨rfl, rfl, rfl, rfl, rfl, rfl, rfl, rfl, rfl, rfl, rfl, rfl, rfl, rfl, rfl⟩
  · refine CycleFrame.trans ?_ (startCycle_cycleFrame _)
    refine CycleFrame.trans ?_ (holdReception_cycleFrame _)
    exact ⟨rfl, rfl, rfl, rfl, rfl, rfl, rfl, rfl, rfl, rfl, rfl, rfl, rfl, rfl, rfl⟩

theorem takeDeferred_cycleFrame (s : State) : CycleFrame s (takeDeferred s) := by
  unfold takeDeferred
  split
  · split
    · exact startCycle_cycleFrame _
    · exact CycleFrame.refl _
  · split
    · exact startCycle_cycleFrame _
    · exact CycleFrame.refl _
  · exact CycleFrame.refl _

theorem sendHead_cycleFrame (e : DownEntry) (rest : List DownEntry) (s : State) :
    CycleFrame s (sendHead e rest s) := by
  unfold sendHead
  refine CycleFrame.trans ?_ (driveD_cycleFrame _ _)
  exact ⟨rfl, rfl, rfl, rfl, rfl, rfl, rfl, rfl, rfl, rfl, rfl, rfl, rfl, rfl, rfl⟩

theorem examineHead_cycleFrame (l : Line) (s : State) : CycleFrame s (examineHead l s) := by
  unfold examineHead
  split
  · exact forwarding_cycleFrame _ _
  · split
    · exact sendHead_cycleFrame _ _ _
    · exact forwarding_cycleFrame _ _

theorem missHead_cycleFrame (n : Nat) (s : State) : CycleFrame s (missHead n s) :=
  ⟨rfl, rfl, rfl, rfl, rfl, rfl, rfl, rfl, rfl, rfl, rfl, rfl, rfl, rfl, rfl⟩

theorem openExamine_cycleFrame (l : Line) (s : State) : CycleFrame s (openExamine l s) := by
  unfold openExamine
  split
  · exact forwarding_cycleFrame _ _
  · split
    · exact sendHead_cycleFrame _ _ _
    · split
      · exact missHead_cycleFrame _ _
      · dsimp only
        split
        · exact ⟨rfl, rfl, rfl, rfl, rfl, rfl, rfl, rfl, rfl, rfl, rfl, rfl, rfl, rfl, rfl⟩
        · split
          · refine CycleFrame.trans ?_ (sendHead_cycleFrame _ _ _)
            exact ⟨rfl, rfl, rfl, rfl, rfl, rfl, rfl, rfl, rfl, rfl, rfl, rfl, rfl, rfl, rfl⟩
          · exact ⟨rfl, rfl, rfl, rfl, rfl, rfl, rfl, rfl, rfl, rfl, rfl, rfl, rfl, rfl, rfl⟩

theorem openWindow_cycleFrame (l : Line) (s : State) : CycleFrame s (openWindow l s) :=
  (openExamine_cycleFrame l s).trans (takeDeferred_cycleFrame _)

theorem nextHead_cycleFrame (l : Line) (s : State) : CycleFrame s (nextHead l s) :=
  (examineHead_cycleFrame l s).trans (takeDeferred_cycleFrame _)

theorem sendSetpoint_cycleFrame (l : Line) (k : Station) (s : State) : CycleFrame s (sendSetpoint l k s) := by
  unfold sendSetpoint
  refine CycleFrame.trans ?_ (driveD_cycleFrame _ _)
  exact ⟨rfl, rfl, rfl, rfl, rfl, rfl, rfl, rfl, rfl, rfl, rfl, rfl, rfl, rfl, rfl⟩

theorem afterReport_cycleFrame (l : Line) (k : Station) (s : State) : CycleFrame s (afterReport l k s) := by
  unfold afterReport
  dsimp only
  split
  · split
    · exact (endWait_cycleFrame s).trans (sendSetpoint_cycleFrame _ _ _)
    · exact (endWait_cycleFrame s).trans (openWindow_cycleFrame _ _)
  · exact (endWait_cycleFrame s).trans (openWindow_cycleFrame _ _)

theorem afterReply_cycleFrame (l : Line) (s : State) : CycleFrame s (afterReply l s) :=
  (endWait_cycleFrame s).trans (nextHead_cycleFrame l _)

theorem frameEnded_cycleFrame (s : State) : CycleFrame s (frameEnded s) := by
  unfold frameEnded
  split
  · exact startCycle_cycleFrame _
  · split
    · exact sendSetpoint_cycleFrame _ _ _
    · refine CycleFrame.trans ?_ (beginWait_cycleFrame _)
      exact ⟨rfl, rfl, rfl, rfl, rfl, rfl, rfl, rfl, rfl, rfl, rfl, rfl, rfl, rfl, rfl⟩
    · split
      · exact (forwarding_cycleFrame _ _).trans (beginWait_cycleFrame _)
      · exact nextHead_cycleFrame _ _
    · exact CycleFrame.refl _

theorem examineOffered_cycleFrame (s : State) : CycleFrame s (examineOffered s) := by
  unfold examineOffered
  split
  · exact examineHead_cycleFrame _ _
  · exact CycleFrame.refl _

theorem offerDown_cycleFrame (f : Frame) (awaited : Bool) (s : State) : CycleFrame s (offerDown f awaited s) := by
  unfold offerDown
  split
  · refine CycleFrame.trans ?_ (examineOffered_cycleFrame _)
    exact ⟨rfl, rfl, rfl, rfl, rfl, rfl, rfl, rfl, rfl, rfl, rfl, rfl, rfl, rfl, rfl⟩
  · exact bump_cycleFrame _ _

/-! ## Request Service -/

/-- A request with no slot free (R170). -/
theorem served_of_full {s : State} (h : s.full = true) (src num code : Byte) (act : State → Answer) :
    served src num code act s = s.bump .replyOverflow := by
  simp [served, h]

/-- A request with a slot free: what its block does, and the reply placed last (R165, R168). -/
theorem served_of_free {s : State} (h : s.full = false) (src num code : Byte) (act : State → Answer) :
    served src num code act s =
      (act s).state.placeReply (s.replyFrame src num code (act s).outcome (act s).body) := by
  simp [served, h, reply]

/-! ## Commands -/

/-- Every command answers a next state. -/
theorem exec_next (c : Instr) (s : State) : ∃ t, exec c s = .next t := by
  cases c <;> exact ⟨_, rfl⟩

end Sys2Proof.Machine
end

