-- ==== Sys2Proof/Laws/Ops.lean ====
section
/-! SUPPORT. What the small operations can answer: clamps and counts, the first field at fault, the log
queue after an update, and the receiver after a byte. -/

namespace Sys2Proof.Machine

/-! ## Clamps and counts -/

theorem clampInt_bounds {lo hi : Int} (h : lo ≤ hi) (x : Int) : lo ≤ clampInt lo hi x ∧ clampInt lo hi x ≤ hi := by
  unfold clampInt; split <;> [skip; split] <;> omega

theorem clampInt_of_mem {lo hi x : Int} (h : lo ≤ x) (g : x ≤ hi) : clampInt lo hi x = x := by
  unfold clampInt; rw [if_neg (by omega), if_neg (by omega)]

theorem clampNat_bounds {lo hi : Nat} (h : lo ≤ hi) (x : Nat) : lo ≤ clampNat lo hi x ∧ clampNat lo hi x ≤ hi := by
  unfold clampNat; split <;> [skip; split] <;> omega

theorem riseTo_le {top n : Nat} (h : n ≤ top) : riseTo top n ≤ top := by
  unfold riseTo; split <;> omega

theorem le_riseTo (top n : Nat) : n ≤ riseTo top n := by
  unfold riseTo; split <;> omega

/-! ## The first field at fault -/

theorem firstFault_none {cs : List (Nat × Bool)} : firstFault cs = none ↔ ∀ n, (n, false) ∉ cs := by
  simp only [firstFault, Option.map_eq_none_iff, List.find?_eq_none, Bool.not_eq_true, Bool.not_eq_false']
  constructor
  · intro h n hn; simpa using h _ hn
  · rintro h ⟨n, v⟩ hn
    cases v
    · exact absurd hn (h n)
    · rfl

/-- With the fields in rising number, the fault named is the least one. -/
theorem firstFault_some {cs : List (Nat × Bool)} (hs : cs.Pairwise (fun u v => u.1 ≤ v.1)) {n : Nat}
    (hn : (n, false) ∈ cs) (hm : ∀ m, m < n → (m, false) ∉ cs) : firstFault cs = some n := by
  induction cs with
  | nil => cases hn
  | cons c cs ih =>
    obtain ⟨k, v⟩ := c
    cases v with
    | true =>
      have hn' : (n, false) ∈ cs := by simpa using hn
      have := ih hs.of_cons hn' (fun m h g => hm m h (List.mem_cons_of_mem _ g))
      simpa [firstFault] using this
    | false =>
      have hk : ¬ k < n := fun h => hm k h List.mem_cons_self
      have : n = k := by
        rcases List.mem_cons.1 hn with h | h
        · exact (Prod.mk.inj h).1
        · have : k ≤ n := (List.pairwise_cons.1 hs).1 _ h
          omega
      simp [firstFault, this]

/-! ## The log queue -/

@[simp] theorem updateRecord_length (id : Nat) (f : LogRecord → LogRecord) (q : List LogRecord) :
    (updateRecord id f q).length = q.length := by simp [updateRecord]

/-- An update that keeps a record's number keeps the numbers of the whole queue. -/
theorem updateRecord_ids {id : Nat} {f : LogRecord → LogRecord} (h : ∀ r, (f r).id = r.id) (q : List LogRecord) :
    (updateRecord id f q).map LogRecord.id = q.map LogRecord.id := by
  simp only [updateRecord, List.map_map]
  refine List.map_congr_left fun r _ => ?_
  simp only [Function.comp]; split <;> simp [h]

/-- An update that keeps a record's bank keeps how many records are bound to each bank. -/
theorem updateRecord_countP {id : Nat} {f : LogRecord → LogRecord} (h : ∀ r, (f r).bank = r.bank) (k : BankId)
    (q : List LogRecord) :
    (updateRecord id f q).countP (fun r => r.bank == k) = q.countP (fun r => r.bank == k) := by
  induction q with
  | nil => rfl
  | cons r q ih =>
    simp only [updateRecord, List.map_cons, List.countP_cons] at ih ⊢
    rw [ih]; split <;> simp [h]

/-- A record found under a number is queued and has that number. -/
theorem State.record?_some {s : State} {id : Nat} {r : LogRecord} (h : s.record? id = some r) :
    r ∈ s.tracker.queue ∧ r.id = id :=
  ⟨List.mem_of_find?_eq_some h, by simpa using List.find?_some h⟩

/-! ## The receiver -/

/-- A byte taken in HUNT begins a frame or changes nothing. -/
theorem Receiver.take_hunt {r : Receiver} (h : r.phase = .hunt) (now : Nat) (b : Byte) :
    r.take now b = if b = 0xB6#8 then (Receiver.beginFrame now, .begun) else (r, .quiet) := by
  simp [Receiver.take, Receiver.receiving, h, Config.startByte]

/-- Every frame the receiver reports good leaves it in HUNT. -/
theorem Receiver.take_good {r : Receiver} {now : Nat} {b : Byte} {f : Frame} (h : (r.take now b).2 = .good f) :
    (r.take now b).1.phase = .hunt := by
  have body : ∀ d sr k l g, (r.endBody d sr k l g).1.phase = .hunt := by
    intro d sr k l g; unfold Receiver.endBody; dsimp only; split <;> rfl
  have header : ∀ g, (r.endHeader now g).2 ≠ .good f := by
    intro g; unfold Receiver.endHeader; split <;> simp
  have gather : ∀ x, (r.gather now x).2 = .good f → (r.gather now x).1.phase = .hunt := by
    intro x hx
    unfold Receiver.gather at hx ⊢
    dsimp only at hx ⊢
    split at hx
    · cases hx
    · split at hx
      · exact absurd hx (header _)
      · cases hx
    · split at hx
      · rename_i h5; rw [if_pos h5]; exact body _ _ _ _ _
      · cases hx
  unfold Receiver.take at h ⊢
  split at h
  · split at h <;> cases h
  · rename_i h1
    rw [if_neg h1]
    split at h
    · cases h
    · rename_i h2
      rw [if_neg h2]
      split at h
      · rename_i h3
        rw [if_pos h3]
        split at h
        · rename_i h4; rw [if_pos h4]; exact gather _ h
        · cases h
      · rename_i h3
        rw [if_neg h3]
        split at h
        · cases h
        · rename_i h4
          rw [if_neg h4]
          split at h
          · cases h
          · rename_i h5; rw [if_neg h5]; exact gather _ h

/-! ## Replies and banks -/

/-- A reply placed takes one more slot. -/
theorem placeReply_slots (s : State) (f : Frame) : (s.placeReply f).slotsTaken = s.slotsTaken + 1 := by
  simp only [State.placeReply, State.slotsTaken, List.length_append, List.length_singleton]
  exact Nat.add_right_comm _ _ _

/-- The bank a request acts on is never the ACTIVE one (R75). -/
theorem target_ne_mark (t : TableStore) : t.mark ≠ some t.target := by
  unfold TableStore.target
  split
  · rename_i k h; rw [h]; exact fun e => BankId.other_ne k (Option.some.inj e).symm
  · rename_i h; rw [h]; exact fun e => nomatch e

end Sys2Proof.Machine
end

