-- ==== Sys2Proof/Laws/Positions.lean ====
section
/-! SUPPORT. The positions and checks that the claims spell out, in the terms of the operations that judge them. -/

namespace Sys2Proof.Machine

/-- A standing is the one of a position exactly when both of its positions are those the Log Tracker judges. -/
theorem Standing.standsAt_iff {c : Counts} {k : Station} {len : Option LogLength} {pos : Int} {x : Standing}
    (h : 0 ≤ c.tolerance) :
    x.standsAt c k len pos ↔ x.window = windowPos c k pos ∧ x.contact = contactPos c k len pos := by
  have hw : ((x.window = .short ↔ pos < c.eye.get k - c.tolerance)
      ∧ (x.window = .past ↔ c.eye.get k + c.tolerance < pos)) ↔ x.window = windowPos c k pos := by
    unfold windowPos
    split
    · cases x.window <;> simp <;> omega
    · split <;> cases x.window <;> simp <;> omega
  have hc : ((x.contact = .short ↔ pos < c.contact.get k)
      ∧ (x.contact = .clear ↔ c.contact.get k ≤ pos ∧ ∃ n, len = some n ∧ c.contact.get k + n.counts ≤ pos))
      ↔ x.contact = contactPos c k len pos := by
    unfold contactPos
    split
    · cases x.contact <;> simp <;> omega
    · cases len with
      | none => cases x.contact <;> simp <;> omega
      | some n => simp only; split <;> cases x.contact <;> simp <;> omega
  rw [← hw, ← hc, Standing.standsAt, and_assoc]

/-- The standing of a new record is that of its position. -/
theorem freshStanding_standsAt {l : Line} {k : Station} {len : Option LogLength} {pos : Int}
    (h : 0 ≤ l.counts.tolerance) : (freshStanding l k len pos).standsAt l.counts k len pos :=
  (Standing.standsAt_iff h).2 ⟨rfl, rfl⟩

/-- The claim's blocked eye is the one the blocked-eye check finds. -/
theorem Eye.blockedAt_iff {l : Line} {t : Travel} {e : Eye} :
    e.blockedAt (some l) t ↔ eyeBlocked l.counts t e = true := by
  unfold Eye.blockedAt eyeBlocked
  cases e.darkSince <;> simp [and_assoc]

/-- A record of known length has no length limit to reach. -/
theorem LogRecord.unlimited_of_length {l : Line} {pos : Int} {r : LogRecord} {n : LogLength}
    (h : r.length = some n) : r.unlimited l pos := by
  intro h'; rw [h] at h'; cases h'

/-- A record of known length whose positions are those judged, with no loss pending, is still. -/
theorem LogRecord.still_of_positions {l : Line} {t : Travel} {r : LogRecord} {n : LogLength}
    (h : 0 ≤ l.counts.tolerance) (hn : r.length = some n)
    (hk : ∀ k, (r.at k).window = windowPos l.counts k (travelDiff t r.b)
      ∧ (r.at k).contact = contactPos l.counts k r.length (travelDiff t r.b) ∧ (r.at k).lostPending = false) :
    r.still l t :=
  ⟨fun k _ => (Standing.standsAt_iff h).2 ⟨(hk k).1, (hk k).2.1⟩, fun k => (hk k).2.2, LogRecord.unlimited_of_length hn⟩

end Sys2Proof.Machine
end

