-- ==== Sys2Proof/Tests/Slice0.lean ====
section
/-! SUPPORT. Tests: the operand checks, worked examples of the manual, and for every statement with
hypotheses a concrete input that meets them. -/

namespace Sys2Proof.Machine

/-! ## A line, a table and some states -/

/-- The line of the worked examples of section 2.4 at pitch 500 µm, sent to address 12, two stations,
nodes 21 and 22. -/
def tImage : List Byte :=
  be8 12 ++ be8 2 ++ be8 21 ++ be8 22 ++ be16 500 ++ be16 12000 ++ be16 21500 ++ be16 800 ++ be16 900
    ++ be16 150 ++ be16 300 ++ be16 8000 ++ be16 250 ++ be16 12000 ++ be16 300 ++ be8 5 ++ be16 300
    ++ be16 100 ++ be16 1000 ++ be8 40 ++ be8 4 ++ be16 400 ++ be16 450 ++ be16 250 ++ be8 3 ++ be8 60
    ++ be16 1023 ++ be8 0

def tRecord : LineRecord := lineImage tImage
def tLine : Line := { record := tRecord, counts := lineCounts tRecord }
/-- The same line with one station. -/
def tLine1 : Line := { tLine with record := { tRecord with stations := 1 } }
/-- The same line, forwarding log frames. -/
def tLineF : Line := { tLine with record := { tRecord with forwardLogs := true } }

/-- The spruce of section 6.11 with code 0. -/
def tEntryImage : List Byte :=
  be8 0 ++ be8 4 ++ be16 100 ++ be16 2400 ++ be16 250 ++ be16 3800 ++ be16 450 ++ be16 5200 ++ be16 700
    ++ be16 6000 ++ List.replicate 8 0#8 ++ be16 1500 ++ be16 9000 ++ beS16 (-20) ++ beS16 (-150) ++ be16 180
    ++ be16 700 ++ beS16 40 ++ be8 50 ++ be16 400 ++ be8 60 ++ be16 300

def tSpruce : SpeciesEntry := entryImage tEntryImage

def tStanding : Standing :=
  { confirmed := .no, lostPending := false, measured := false, passedUnseen := false, window := .short
    contact := .short }

/-- Log 41 of section 6.11: 5200 mm, 330 to 180 mm, −12.0 °C; its butt `behind` counts past the scan line. -/
def tLog (id : Nat) (behind : Int) : LogRecord :=
  { id := id, origin := .scanned, tag := some (BitVec.ofNat 8 id), scanned := 0#8, species := 0, confidence := 90
    butt := 330, top := 180, profile := [], length := some { counts := 10400, mm := 5200 }
    temperature := some (-120), bank := .a, b := BitVec.ofInt 24 (-behind), joined := false, joinForced := false
    at1 := tStanding, at2 := tStanding }

def tChannel : Channel := { Channel.reset with state := .ready }

def tBank (st : BankState) : Bank :=
  { Bank.reset with entries := Bank.reset.entries.set 0 (some tSpruce), state := st }

/-- STANDBY under a line, bank A ACTIVE, the service window open with forwarding idle. -/
def tStandbyOn (l : Line) : State :=
  { State.reset with
    mode := { State.reset.mode with mode := .standby, line := some l }
    switch := { State.reset.switch with ownAddr := 12#8 }
    tables := { State.reset.tables with a := tBank .active, mark := some .a }
    arms := { State.reset.arms with
      channels := { one := List.replicate 5 tChannel, two := List.replicate 5 tChannel } }
    cycle := { State.reset.cycle with phase := .window .idle, nextDue := some 5000 } }

def tStandby : State := tStandbyOn tLine

def tMode (m : Mode) (s : State) : State := { s with mode := { s.mode with mode := m } }

def tTripped (c : TripCause) : State :=
  { tStandby with mode := { tStandby.mode with mode := .tripped, cause := c } }

/-- RUN with both rotors at speed and nothing queued. -/
def tRunOn (l : Line) : State :=
  let rotor : Rotor := { ref := some 1000, period := 30000, speed := 500, under := false }
  let s := tMode .run (tStandbyOn l)
  { s with inputs := { s.inputs with rotors := { one := rotor, two := rotor } } }

def tRun : State := tRunOn tLine

/-- One record queued, bound to bank A. -/
def tQueue (r : LogRecord) (s : State) : State :=
  { s with
    tracker := { s.tracker with queue := [r], nextId := r.id + 1 }
    tables := { s.tables with a := { s.tables.a with refs := 1 } } }

/-- Log 41 queued, in front of the window of eye 1 and bound to bank A. -/
def tLogged : State := tQueue (tLog 41 22000) tRun

def tStations (a b : StationState) (s : State) : State :=
  { s with arms := { s.arms with stations := { one := a, two := b } } }

def tPhase (p : Phase) (s : State) : State := { s with cycle := { s.cycle with phase := p } }

/-- A wait in progress in a phase, released at 100 µs. -/
def tWait (p : Phase) (begun : Bool) (s : State) : State :=
  { s with cycle := { s.cycle with phase := p, wait := some { released := 100, begun := begun } } }

/-- Port U, then Port D, with its receiver in a phase. -/
def tRxU (p : RxPhase) (esc : Bool) (g : List Byte) (s : State) : State :=
  { s with portU := { s.portU with rx := { phase := p, escPending := esc, gathered := g, gapFrom := 0 } } }
def tRxD (p : RxPhase) (esc : Bool) (g : List Byte) (s : State) : State :=
  { s with portD := { s.portD with rx := { phase := p, escPending := esc, gathered := g, gapFrom := 0 } } }

def tFrame (dest src kind : Byte) (n : Nat) : Frame :=
  { dest := dest, src := src, kind := kind, payload := List.replicate n 0#8 }

def tSending : Sending := { frame := tFrame 30#8 1#8 0x60#8 0, bytes := [], endsAt := 200 }

/-- Port D driving a frame. -/
def tDriving (p : Phase) (s : State) : State :=
  tPhase p { s with portD := { s.portD with tx := some tSending } }

/-- A receiver one byte before the end of a good notice with no payload. -/
def tEnding : Receiver :=
  { phase := .body 30#8 1#8 0x60#8 0#8, escPending := false, gathered := [0xFF#8], gapFrom := 0 }

/-- That reception kept at a cut, with the CYCLE_SYNC on the wire. -/
def tCut (moment : Nat) : State :=
  let s := tDriving .sync tStandby
  { s with portD := { s.portD with cut := some { rx := tEnding, moment := moment } } }

/-- All eight reply slots taken. -/
def tFull (s : State) : State :=
  { s with requests := { s.requests with replies := List.replicate 8 (tFrame 1#8 12#8 0x21#8 4) } }

def tBankB (x : Bank) (s : State) : State := { s with tables := { s.tables with b := x } }

/-- A copy from bank A into bank B, asked for by station 1. -/
def tCopying (item : Nat) : State :=
  { tStandby with
    tables := { tStandby.tables with
      b := { Bank.reset with state := .copying }
      copy := some { source := .a, dest := .b, start := 0, item := item } }
    requests := { tStandby.requests with inFlight := some { num := 5#8, dest := 1#8 } } }

def tOpen : ArmCommand := { close := false, setpoint := 0 }
def tCommands : Pair (List ArmCommand) := { one := List.replicate 5 tOpen, two := List.replicate 5 tOpen }

/-- A report of cycle 0 with one entry repeated: pressure 0 and a position byte. -/
def tReport (position : Nat) : List Byte :=
  be16 0 ++ (List.replicate 5 (be16 0 ++ be8 position)).flatten

/-- A record confirmed by eye that stands `pos` counts past the scan line at a travel count. -/
def tAt (l : Line) (t : Travel) (id : Nat) (pos : Int) : LogRecord :=
  let len : Option LogLength := some { counts := 10400, mm := 5200 }
  { tLog id 0 with
    b := t - BitVec.ofInt 24 pos
    at1 := { freshStanding l .one len pos with confirmed := .byEye }
    at2 := { freshStanding l .two len pos with confirmed := .byEye } }

/-- One count back from the travel count 0. -/
def tBack : Travel := 0#24 - 1#24

/-- RUN on a line with records queued, two stations and both eyes in a state. -/
def tMeets (l : Line) (q : List LogRecord) (a b : StationState) (e : Eye) : State :=
  let s := tStations a b (tRunOn l)
  { s with
    tracker := { s.tracker with queue := q, nextId := 100 }
    tables := { s.tables with a := { s.tables.a with refs := q.length } }
    inputs := { s.inputs with eyes := { one := e, two := e } } }

def tClear : Eye := { dark := false, fault := false, darkSince := none }
def tDark (fault : Bool) : Eye := { dark := true, fault := fault, darkSince := some 0#24 }

theorem conditions_met {cs : List (Nat × Bool)} (h : cs.all (·.2) = true) : ∀ n, (n, false) ∉ cs :=
  fun _ hn => by simpa using List.all_eq_true.1 h _ hn

/-! ## Operand checks -/

theorem test_refuses_long_payload :
    [Instr.forbiddenKind (tFrame 1#8 1#8 0x20#8 121), .forwardDownstream (tFrame 1#8 1#8 0x20#8 121),
      .logScan 255#8 1#8 (List.replicate 121 0#8), .logVoid 255#8 1#8 (List.replicate 121 0#8),
      .requestOverflow 1#8 (List.replicate 121 0#8), .badForm 1#8 (List.replicate 121 0#8),
      .unknownRequest 1#8 1#8 0#8 (List.replicate 119 0#8), .armReport 12#8 21#8 (List.replicate 121 0#8),
      .replyFromStation (tFrame 1#8 1#8 0x21#8 121), .unsolicited (tFrame 1#8 1#8 0x21#8 121)].all
      (fun c => !c.wellFormed) = true := by decide +kernel

theorem test_refuses_kind_not_forwarded : (Instr.forwardDownstream (tFrame 30#8 1#8 0x30#8 0)).wellFormed = false := by
  decide

theorem test_refuses_good_form : (Instr.badForm 1#8 [7#8, 11#8]).wellFormed = false := by decide

theorem test_refuses_known_request : (Instr.unknownRequest 1#8 1#8 14#8 []).wellFormed = false := by decide

theorem test_refuses_image_lengths :
    [Instr.lineLoad 1#8 1#8 (List.replicate 45 0#8), .tableEntry 1#8 1#8 (List.replicate 47 0#8),
      .tableTrim 1#8 1#8 (List.replicate 19 0#8)].all (fun c => !c.wellFormed) = true := by decide

theorem test_refuses_arguments_of_other_rows :
    [Instr.modeSetBadArgument 1#8 1#8 1#8, .modeSetBadArgument 1#8 1#8 4#8, .tableOpenBadArgument 1#8 1#8 2#8,
      .countersReadBadOption 1#8 1#8 1#8].all (fun c => !c.wellFormed) = true := by decide

theorem test_takes_boundary_operands :
    [Instr.forbiddenKind (tFrame 1#8 1#8 0x20#8 120), .forwardDownstream (tFrame 30#8 1#8 0x7F#8 120),
      .badForm 1#8 [], .badForm 1#8 [1#8, 7#8, 0#8], .unknownRequest 1#8 1#8 15#8 [], .lineLoad 1#8 1#8 tImage,
      .tableEntry 1#8 1#8 tEntryImage, .modeSetBadArgument 1#8 1#8 5#8, .tableOpenBadArgument 1#8 1#8 3#8,
      .countersReadBadOption 1#8 1#8 2#8].all Instr.wellFormed = true := by decide

/-! ## Worked examples of the manual -/

/-- R7: the CRC of an empty payload and of one byte 0x00. -/
theorem test_crc_values : crcOf [] = 0xFFFF#16 ∧ crcOf [0#8] = 0xFD02#16 := by decide

/-- Section 1.4: position 9 inverted is corrected; positions 3 and 5, and 36, 37 and 38, are not. -/
theorem test_header_examples :
    let w := Codeword.sent 30#8 1#8 0x60#8 2#8
    (w.invert 9).check = some { dest := 30#8, src := 1#8, kind := 0x60#8, len := 2#8, corrected := true }
    ∧ ((w.invert 3).invert 5).check = none ∧ (((w.invert 36).invert 37).invert 38).check = none := by decide

/-- R2: a payload byte 0xB7 is sent as ESC 0x97. -/
theorem test_wire_escapes : ((wire { tFrame 30#8 1#8 0x60#8 0 with payload := [0xB7#8, 5#8] }).drop 6).take 3
    = [0xB7#8, 0x97#8, 5#8] := by decide +kernel

/-- Section 2.4: the conversion of distances at pitch 333 µm. -/
theorem test_counts_of_pitch_333 : lineCounts { tRecord with pitch := 333 } =
    { contact := { one := 36036, two := 64565 }, offset := { one := 2402, two := 2703 }
      eye := { one := 33634, two := 61862 }, tolerance := 450, minGap := 901, maxLength := 24024 } := by decide

/-- Section 2.4: fields 4 and 7 at fault, then field 7 alone. -/
theorem test_line_record_refused : firstFault (lineConditions { tRecord with node2 := 12, contact2 := 12400 }) = some 4
    ∧ firstFault (lineConditions { tRecord with contact2 := 12400 }) = some 7
    ∧ firstFault (lineConditions tRecord) = none := by decide

/-- Section 5.2: D_3 not above D_2; t_dp not below t_th; code 32. -/
theorem test_entries_refused :
    firstFault (entryConditions ((tEntryImage.take 10 ++ be16 250 ++ tEntryImage.drop 12))) = some 7
    ∧ firstFault (entryConditions ((tEntryImage.take 32 ++ beS16 (-20) ++ tEntryImage.drop 34))) = some 18
    ∧ firstFault (entryConditions (be8 32 ++ tEntryImage.drop 1)) = some 1
    ∧ firstFault (entryConditions tEntryImage) = none := by decide

/-- R96: the table of roundings. -/
theorem test_rounding_table : [roundDiv 106400 200, roundDiv 8000 130, roundDiv 7500 400, roundDiv 4500 600,
    roundDiv 1984250 100, roundDiv 1 3, roundDiv (-22500) 5200, roundDiv (-35) 10, roundDiv (-750000) 5200]
    = [532, 62, 19, 8, 19843, 0, -4, -4, -144] := by decide

/-- Section 3.5: dark since 100300, limit 12400; blocked one count past it. -/
theorem test_blocked_eye :
    let c := { tLine.counts with maxLength := 12000, minGap := 400 }
    let e : Eye := { dark := true, fault := false, darkSince := some 100300#24 }
    eyeBlocked c 112700#24 e = false ∧ eyeBlocked c 112701#24 e = true := by decide

/-- What the cases of section 6.11 read: q counts past contact of a record with butt count 0. -/
def tInputs (q : Int) (feed : Nat) (trim : Int) : PressureInputs :=
  { travel := BitVec.ofInt 24 q, contact := 0, pitch := 500, ceiling := 12000, feed := feed, dwell := false
    dwellPercent := 40, successorJoined := false, trim := trim }

/-- Section 6.11, case A, both cycles with the slew, and case B, both columns. -/
theorem test_cases_a_and_b :
    pressureB5 (tInputs 300 900 (-150)) tSpruce (tLog 41 0) = 5080
    ∧ pressureB6 (tInputs 309 900 (-150)) tSpruce (tLog 41 0) = 5080
    ∧ slewed 300 4600 5080 = 4900 ∧ slewed 300 4900 5080 = 5080
    ∧ pressureB6 (tInputs 10000 300 120) tSpruce (tLog 41 0) = 3912 ∧ slewed 300 4300 3912 = 4000
    ∧ pressureB6 (tInputs 10400 300 120) tSpruce (tLog 41 0) = 2689
    ∧ pressureB6 { tInputs 10000 300 120 with successorJoined := true } tSpruce (tLog 41 0) = 4479 := by decide

/-- Section 6.11, case C: a synthetic record of species 0, its temperature unknown and −50. -/
theorem test_case_c :
    let e : SpeciesEntry := { tSpruce with
      n := 3, points := [(100, 2000), (400, 4000), (800, 5000)], pMin := 1200, pMax := 7000, tThaw := -30
      tDeep := -200, frozen := 200, vRef := 800, slope := 20, entryStart := 40, entryLength := 600
      tailEnd := 70, tailLength := 0 }
    let r := { tLog 1 0 with butt := 250, top := 250, length := none }
    pressureB6 (tInputs 150 1600 0) e { r with temperature := none } = 3341
    ∧ pressureB6 (tInputs 150 1600 0) e { r with temperature := some (-50) } = 1871 := by decide

/-- Section 6.11, case D: the frozen birch at 2000 mm, fed and stopped. -/
theorem test_case_d :
    let e : SpeciesEntry := { tSpruce with
      n := 3, points := [(80, 3000), (300, 6000), (600, 9500)], pMin := 2500, pMax := 11000, tThaw := 0
      tDeep := -250, frozen := 250, vRef := 600, slope := 60, entryStart := 70, entryLength := 300
      tailEnd := 50, tailLength := 500 }
    let r := { tLog 1 0 with
      profile := [(0, 520), (1500, 480), (4000, 410), (6000, 300)], length := some { counts := 12400, mm := 6200 }
      temperature := some (-300), joined := true }
    let i := { tInputs 4000 1800 200 with ceiling := 10000 }
    pressureB5 i e r = 25004 ∧ pressureB6 i e r = 10000
    ∧ pressureB6 { i with feed := 0, dwell := true } e r = 6550 ∧ slewed 400 10000 6550 = 9600 := by decide

/-- R35: the table of feed speeds. -/
theorem test_feed_speeds : feedSpeed 180 500 100 = 900 ∧ feedSpeed 1001 333 200 = 1666 := by decide

/-- R39: the table of rotor speeds. -/
theorem test_rotor_speeds :
    let q := fun n : Nat => some { tLine with record := { tRecord with pulses := n } }
    rotorSpeed (q 4) 25000 = 600 ∧ rotorSpeed (q 4) 25100 = 597 ∧ rotorSpeed (q 32) 1600 = 1171 := by decide

/-! ## One step on a small state -/

/-- The state after one command. -/
def tAfter (c : Instr) (s : State) : Option State :=
  match exec c s with
  | .next t => some t
  | .fault _ => none
  | .refused _ => none

/-- R24, R8, R146: LINE_LOAD in UNSET leads to STANDBY under the own address 12, with cycle 1 begun and the reply
sent from address 254. -/
theorem test_line_load_from_reset :
    (tAfter (.lineLoad 1#8 7#8 tImage) State.reset).map
        (fun t => (t.mode.mode, t.switch.ownAddr, t.cycle.number, t.cycle.phase)) = some (.standby, 12#8, 1, .sync)
    ∧ (tAfter (.lineLoad 1#8 7#8 tImage) State.reset).map (fun t => t.requests.replies) =
        some [{ dest := 1#8, src := 254#8, kind := 0x21#8, payload := [7#8, 1#8, 0#8, 0#8] }] := by decide +kernel

/-- Section 2.4: a record with field 4 at fault is refused BAD_VALUE with detail 4. -/
theorem test_line_load_refused :
    (tAfter (.lineLoad 1#8 7#8 (tImage.take 3 ++ be8 12 ++ tImage.drop 4)) tStandby).map
      (fun t => t.requests.replies.map Frame.payload) = some [[7#8, 1#8, 3#8, 4#8]] := by decide +kernel

/-- R32: the eighth illegal transition of a window fails the encoder and trips. -/
theorem test_eighth_illegal_transition_trips :
    (tAfter (.encoderTransition true true) { tLogged with travel := { tLogged.travel with illegal := 7 } }).map
      (fun t => (t.mode.mode, t.mode.cause, t.travel.failed, t.tracker.queue)) =
        some (.tripped, .encoder, true, []) := by decide +kernel

/-- R62: a rising edge of eye 1 in RUN with nothing queued makes a synthetic record at E_1 = 22400. -/
theorem test_unscanned_log :
    (tAfter (.eyeEdge .one true) tRun).map (fun t => t.tracker.queue.map (fun r => (r.origin, travelDiff t.travel.t r.b)))
      = some [(.synthetic, 22400)] := by decide +kernel

/-- R20, R161: a trip in STANDBY starts a cycle with the next number at once. -/
theorem test_trip_cuts_the_cycle :
    (tAfter (.tripInputChange true) tStandby).map (fun t => (t.mode.cause, t.cycle.number, t.cycle.phase)) =
      some (.tripInput, 1, .sync) := by decide +kernel

/-- R162: a start that fell due with the cut is superseded by it; the next one, a period later, is deferred by the
exchange. -/
theorem test_cut_supersedes_the_start_due :
    let cut := tAfter (.tripInputChange true) { tStandby with now := 5000 }
    (cut.bind (tAfter (.cycleStart 5000)) = cut)
    ∧ (cut.bind (tAfter (.cycleStart 10000))).map (fun t => (t.cycle.number, t.cycle.deferred)) = some (1, true) := by
  decide +kernel

/-- R136: the valve-fault flag isolates every channel of the reporting node. -/
theorem test_valve_fault :
    (tAfter (.armReport 12#8 21#8 (tReport 128)) (tWait (.report .one) true tStandby)).map
      (fun t => t.arms.channels.one.map Channel.state) = some (List.replicate 5 .isolated) := by decide +kernel

/-- R175: COUNTERS_READ with option 1 reports the counters, then clears them. -/
theorem test_counters_read_and_cleared :
    let q : RequestService := { State.reset.requests with counters := { Counters.zero with uFramesOk := 258 } }
    let s : State := { State.reset with requests := q }
    (tAfter (.countersReadClear 1#8 7#8) s).map (fun t => (t.requests.counters.uFramesOk,
      t.requests.replies.map (fun f => f.payload.take 6))) =
        some (0, [[7#8, 13#8, 0#8, 0#8, 1#8, 2#8]]) := by decide +kernel

/-- The table gives the commands no bits. -/
theorem test_no_word_spells_a_command : decodeTableWord 8 0 = none := rfl

/-! ## Witnesses: the machine as a whole -/

theorem witness_StepRunsFrontCommand :
    { State.reset with pending := [.cycleStart 5000, .copyItem] }.pending = .cycleStart 5000 :: [.copyItem] := rfl

/-- Its step: a trip with a record queued. -/
def tStepped : State := { tLogged with pending := [.tripInputChange true] }

theorem tStepped_steps : ∃ t, step tStepped = .next t := ⟨_, rfl⟩

/-- Capacities at their tops: eight replies, a counter at 65535. -/
theorem witness_CapacitiesKept :
    let s := { tFull tLogged with
      requests := { (tFull tLogged).requests with counters := { Counters.zero with replyOverflow := 65535 } }
      pending := [.statusRead 1#8 1#8] }
    s.CapacityOk ∧ ∃ t, step s = .next t :=
  ⟨⟨by decide, by decide, by decide, by decide, by decide⟩, ⟨_, rfl⟩⟩

theorem tStepped_mode : tStepped.ModeOk :=
  ⟨by decide, by decide, by decide, by decide, by decide, by decide, by decide, by decide, by decide, by decide⟩

theorem witness_ModeInvariantKept : tStepped.ModeOk ∧ ∃ t, step tStepped = .next t := ⟨tStepped_mode, tStepped_steps⟩

theorem tStepped_tables : tStepped.TablesOk where
  bank_a := ⟨by decide, by decide, by decide, by decide, by decide⟩
  bank_b := ⟨by decide, by decide, by decide, by decide, by decide⟩
  source := by intro c h; cases h
  working := by decide
  flight := by decide
  fresh := by decide
  distinct := by decide

/-- The tail of a log one count from contact 1, ahead of a synthetic record; the next command is that count. -/
def tPair : State :=
  let q := [{ tAt tLine 1#24 41 34400 with at1 := { (tAt tLine 1#24 41 34400).at1 with contact := .on } },
    { tAt tLine 1#24 42 13000 with origin := .synthetic, tag := none }]
  { tMeets tLine q (.engaged 41) .idle tClear with pending := [.encoderTransition true false] }

theorem tPair_tables : tPair.TablesOk where
  bank_a := ⟨by decide, by decide, by decide, by decide, by decide⟩
  bank_b := ⟨by decide, by decide, by decide, by decide, by decide⟩
  source := by intro c h; cases h
  working := by decide
  flight := by decide
  fresh := by decide
  distinct := by decide

theorem tPair_engaged : tPair.EngagedOk := by
  intro k id h
  cases k <;> cases h
  exact ⟨_, List.mem_cons_self, rfl, by decide, by decide⟩

theorem witness_TableInvariantKept : tPair.TablesOk ∧ tPair.EngagedOk ∧ ∃ t, step tPair = .next t :=
  ⟨tPair_tables, tPair_engaged, ⟨_, rfl⟩⟩

theorem tStepped_inputs : tStepped.InputsOk where
  ambient := by intro v h; cases h
  illegal := by decide
  encoder := by decide
  feed := by decide
  dwell := by decide
  rotor_one := ⟨by decide, by intro h; cases h⟩
  rotor_two := ⟨by decide, by intro h; cases h⟩
  eye_one := ⟨by decide, by decide⟩
  eye_two := ⟨by decide, by decide⟩

theorem witness_InputRangesKept : tStepped.InputsOk ∧ ∃ t, step tStepped = .next t :=
  ⟨tStepped_inputs, tStepped_steps⟩

theorem tChannel_ok : tChannel.ok := by unfold Channel.ok; decide

theorem tStepped_arms : tStepped.ArmsOk where
  line := by intro l h; cases h; exact ⟨by decide, rfl⟩
  five_one := by decide
  five_two := by decide
  channels_one := fun _ h => (List.eq_of_mem_replicate h) ▸ tChannel_ok
  channels_two := fun _ h => (List.eq_of_mem_replicate h) ▸ tChannel_ok
  composed := by intro p h; cases h
  node_one := by unfold Node.ok; decide
  node_two := by unfold Node.ok; decide
  number := by decide
  misses := by decide

theorem witness_CapacitiesKept_queue :
    tPair.TagsOk ∧ tPair.OrderOk ∧ tPair.InReach ∧ tPair.TablesOk ∧ tPair.ArmsOk ∧ ∃ t, step tPair = .next t := by
  refine ⟨⟨by decide, ?_⟩, ?_, ?_, tPair_tables, { tStepped_arms with }, ⟨_, rfl⟩⟩
  · show List.Pairwise _ [_, _]
    decide
  · unfold State.OrderOk
    decide
  · unfold State.InReach
    decide

theorem witness_ArmRangesKept : tStepped.ArmsOk ∧ ∃ t, step tStepped = .next t := ⟨tStepped_arms, tStepped_steps⟩

/-- A swap away from a bank with a record bound to it would keep it; here a request that only reports. -/
theorem witness_BoundBankKeepsImages :
    tStepped.TablesOk ∧ ∃ t, exec .dwellSet tStepped = .next t
      ∧ (tStepped.tables.bank .a).refs ≠ 0 ∧ (t.tables.bank .a).refs ≠ 0 :=
  ⟨tStepped_tables, _, rfl, by decide, by decide⟩

/-! ## Witnesses: the line link and the Frame Switch -/

theorem witness_WireBytesAreTheFrame :
    (tFrame 30#8 1#8 0x60#8 120).payload.length ≤ 120 ∧ State.reset.portU.rx.phase = .hunt := by decide +kernel

theorem witness_HeaderCheckCorrectsOneDetectsTwo :
    (120#8).toNat ≤ 120 ∧ ((1 : Nat) ≤ 1 ∧ (1 : Nat) ≤ 38) ∧ ((1 : Nat) ≤ 38 ∧ (38 : Nat) ≤ 38)
    ∧ ((1 : Nat) ≤ 37 ∧ (37 : Nat) < 38 ∧ (38 : Nat) ≤ 38) := by decide

/-- HUNT; HEADER with three bytes; BODY one byte short of its end. -/
theorem witness_ReceiverGathersBytes :
    let h := tRxU .header false [30#8, 1#8, 0x60#8] State.reset
    let b := tRxU (.body 30#8 1#8 0x60#8 0#8) true [] State.reset
    State.reset.portU.rx.phase = .hunt ∧ (0xB7#8 : Byte) ≠ 0xB6#8
    ∧ h.portU.rx.phase ≠ .hunt ∧ h.portU.rx.escPending = false
    ∧ h.portU.rx.phase = .header ∧ h.portU.rx.gathered.length < 4 ∧ (0xB9#8 : Byte) ≠ 0xB8#8
    ∧ b.portU.rx.phase = .body 30#8 1#8 0x60#8 0#8 ∧ b.portU.rx.gathered.length < (0#8).toNat + 1
    ∧ b.portU.rx.escPending = true := by decide

/-- A frame in reception with the mark set; four header bytes with a HEC byte that is right, fails and is corrected;
an empty payload with a wrong CRC; a byte as it stands and one after an ESC. -/
theorem witness_ReceiverDiscardsBadFrames :
    let e := tRxU .header true [] State.reset
    let h := tRxU .header false [30#8, 1#8, 0x60#8, 0#8] State.reset
    let b := tRxU (.body 30#8 1#8 0x60#8 0#8) false [0xFF#8] State.reset
    let hec := hecByte 30#8 1#8 0x60#8 0#8
    e.portU.rx.phase ≠ .hunt ∧ e.portU.rx.escPending = true ∧ (0x97#8 : Byte) ^^^ 0x20#8 = 0xB7#8
    ∧ h.portU.rx.phase = .header ∧ h.portU.rx.gathered = [30#8, 1#8, 0x60#8, 0#8] ∧ h.portU.rx.escPending = false
    ∧ (hec ≠ 0xB6#8 ∧ hec ≠ 0xB7#8 ∧ hec ≠ 0xB8#8)
    ∧ (checkHeader 30#8 1#8 0x60#8 0#8 hec).map GoodHeader.corrected = some false
    ∧ checkHeader 30#8 1#8 0x60#8 0#8 (hec ^^^ 3#8) = none
    ∧ (checkHeader 30#8 1#8 0x60#8 0#8 (hec ^^^ 64#8)).map GoodHeader.corrected = some true
    ∧ b.portU.rx.phase = .body 30#8 1#8 0x60#8 0#8 ∧ b.portU.rx.gathered.length = (0#8).toNat + 1
    ∧ crcBytes (b.portU.rx.gathered.take 0) ≠ (b.portU.rx.gathered ++ [0xFE#8]).drop 0 := by decide +kernel

/-- Driving; in HUNT; in HEADER with no byte, three and four, the last with a HEC byte that is right, corrected and
wrong; in BODY at the last byte of an empty payload, with a right CRC and a wrong one, and one byte before it. -/
theorem witness_PortDReceiverTakesBytes :
    let h := fun g => tRxD .header false g tStandby
    let b := fun esc g => tRxD (.body 30#8 1#8 0x60#8 0#8) esc g tStandby
    let hec := hecByte 30#8 1#8 0x60#8 0#8
    (tDriving .sync tStandby).portD.tx ≠ none ∧ tStandby.portD.tx = none ∧ tStandby.portD.rx.phase = .hunt
    ∧ ((h []).portD.tx = none ∧ (h []).cycle.wait = none ∧ (h []).portD.rx.phase ≠ .hunt
      ∧ (h []).portD.rx.escPending = false)
    ∧ ((h [30#8, 1#8, 0x60#8]).portD.rx.phase = .header ∧ (h [30#8, 1#8, 0x60#8]).portD.rx.gathered.length < 4)
    ∧ ((h [30#8, 1#8, 0x60#8, 0#8]).portD.rx.gathered = [30#8, 1#8, 0x60#8, 0#8]
      ∧ (checkHeader 30#8 1#8 0x60#8 0#8 hec).map GoodHeader.corrected = some false
      ∧ (checkHeader 30#8 1#8 0x60#8 0#8 (hec ^^^ 64#8)).map GoodHeader.corrected = some true
      ∧ checkHeader 30#8 1#8 0x60#8 0#8 (hec ^^^ 3#8) = none)
    ∧ ((b true []).portD.rx.escPending = true ∧ (0x98#8 : Byte) ^^^ 0x20#8 = 0xB8#8
      ∧ (b true []).portD.rx.gathered.length < (0#8).toNat + 1)
    ∧ ((b false [0xFF#8]).portD.rx.phase = .body 30#8 1#8 0x60#8 0#8
      ∧ (b false [0xFF#8]).portD.rx.gathered.length = (0#8).toNat + 1
      ∧ crcBytes ([0xFF#8].take 0) = ([0xFF#8] ++ [0xFF#8]).drop 0
      ∧ crcBytes ([0xFF#8].take 0) ≠ ([0xFF#8] ++ [0xFE#8]).drop 0)
    ∧ ((tCut 0).portD.tx ≠ none ∧ (tCut 0).now = 0
      ∧ (tCut 0).portD.cut = some { rx := tEnding, moment := 0 } ∧ (tCut 7).portD.cut = some { rx := tEnding, moment := 7 }) := by
  decide +kernel

/-- The reception of that cut, completed by one byte, spoiled by another, and neither completed nor spoiled by an ESC. -/
theorem witness_PortDReceiverTakesBytes_cut :
    tEnding.completes 0xFF#8 (tFrame 30#8 1#8 0x60#8 0) ∧ tEnding.spoils 0 0xFE#8 tEnding.hunted .crcFailed
    ∧ tEnding.spoils 0 0xB8#8 tEnding.hunted .framesAborted
    ∧ (∀ f, ¬ tEnding.completes 0xB7#8 f) ∧ (∀ r x, ¬ tEnding.spoils 0 0xB7#8 r x) := by
  refine ⟨⟨0xFF#8, 0#8, rfl, rfl, .inl (by decide), rfl, by decide +kernel⟩,
    ⟨by decide, .inr (.inr (.inr ⟨0xFE#8, 30#8, 1#8, 0x60#8, 0#8, rfl, rfl, .inl (by decide), by decide +kernel, rfl,
      rfl⟩))⟩, ⟨by decide, .inr (.inl ⟨.inl rfl, rfl, rfl⟩)⟩, ?_, ?_⟩
  · rintro f ⟨v, len, -, -, hr, -⟩
    simp [Receiver.reads, tEnding] at hr
  · rintro r x ⟨-, ⟨h, -⟩ | ⟨h, -⟩ | ⟨_, _, _, _, _, h, -⟩ | ⟨v, d, sr, k, len, -, -, hr, -⟩⟩
    · exact absurd h (by decide)
    · exact absurd h (by decide)
    · exact absurd h (by decide)
    · simp [Receiver.reads, tEnding] at hr

theorem witness_ByteGapAborts :
    (tRxU .header false [] State.reset).portU.rx.phase ≠ .hunt
    ∧ (tRxD .header false [] tStandby).portD.rx.phase ≠ .hunt ∧ (tRxD .header false [] tStandby).cycle.wait = none
    ∧ State.reset.portU.rx.phase = .hunt ∧ State.reset.portD.rx.phase = .hunt := by decide

theorem witness_CounterRisesByOneAndHolds : Counter.uFramesOk ≠ Counter.dFramesOk := by decide

/-- One frame for each line: an invalid destination at both ends of its range, an unknown kind, a notice to the
own address, a REQUEST to broadcast. -/
theorem witness_ForbiddenFramesAreCounted :
    (tFrame 0#8 1#8 0x60#8 0).dest = 0#8 ∧ (240 ≤ (240#8).toNat ∧ (253#8).toNat ≤ 253)
    ∧ ((0x3F#8).toNat ≠ 0x10 ∧ (0x3F#8).toNat ≠ 0x11 ∧ (0x3F#8).toNat ≠ 0x20
        ∧ ¬ ((0x3F#8).toNat = 0x21 ∨ (0x40 ≤ (0x3F#8).toNat ∧ (0x3F#8).toNat ≤ 0x7F)))
    ∧ ((tFrame 12#8 1#8 0x7F#8 0).dest = tStandby.switch.ownAddr ∧ (0x40 ≤ (0x7F#8).toNat ∧ (0x7F#8).toNat ≤ 0x7F))
    ∧ ((tFrame 255#8 1#8 0x20#8 0).dest = 255#8 ∧ tStandby.switch.ownAddr ≠ 255#8) := by decide

/-- A query to station 239; with the queue full; with forwarding closed, idle in time and idle too late. -/
theorem witness_ForwardedFramesAreQueuedOrDropped :
    let f := tFrame 239#8 1#8 0x5F#8 0
    let down : List DownEntry := List.replicate 255 { frame := f, awaited := true }
    let last : DownEntry := { frame := tFrame 30#8 1#8 0x60#8 1, awaited := false }
    let full : State := { tStandby with switch := { tStandby.switch with down := down ++ [last] } }
    ((0x40 ≤ f.kind.toNat ∧ f.kind.toNat ≤ 0x5F) ∧ f.dest ≠ tStandby.switch.ownAddr
      ∧ (1 ≤ f.dest.toNat ∧ f.dest.toNat ≤ 239))
    ∧ f.dest ≠ State.reset.switch.ownAddr ∧ State.reset.mode.mode = .unset
    ∧ ¬ ((full.switch.down.map (fun e => 4 + e.frame.payload.length)).sum + (4 + f.payload.length) ≤ 1024)
    ∧ tStandby.mode.mode ≠ .unset ∧ (tPhase (.window .closed) tStandby).cycle.phase ≠ .window .idle
    ∧ tStandby.cycle.phase = .window .idle ∧ tStandby.mode.line = some tLine ∧ tStandby.cycle.nextDue = some 5000
    ∧ tStandby.switch.down = [] ∧ tStandby.portD.tx = none
    ∧ 5 * (wire f).length + tLine.record.reportTimeout ≤ 5000 - tStandby.now
    ∧ 5000 - { tStandby with now := 4900 }.now < 5 * (wire f).length + tLine.record.reportTimeout := by decide +kernel

/-- Nothing waiting, a reply alone, a forwarded frame alone, and both with each mark. -/
theorem witness_ArbiterAlternatesSources :
    let f := tFrame 1#8 12#8 0x21#8 4
    let g := tFrame 1#8 30#8 0x21#8 4
    let reply := { tStandby with requests := { tStandby.requests with replies := [f] } }
    let both := fun m : Source => { reply with switch := { reply.switch with up := [g], mark := m } }
    tStandby.requests.replies = [] ∧ tStandby.switch.up = [] ∧ reply.requests.replies = f :: [] ∧ reply.switch.up = []
    ∧ (both .forwardQueue).requests.replies = f :: [] ∧ (both .forwardQueue).switch.mark = .forwardQueue
    ∧ (both .replyQueue).switch.up = g :: [] ∧ (both .replyQueue).switch.mark = .replyQueue := by decide

/-- Each phase of an exchange at the end of its frame: with nothing queued, with a head whose need is the very time
left and one µs more, with a start deferred and due at that moment, with a cut waiting, and with another frame
waiting. -/
theorem witness_PortDFrameEndGoesOn :
    let at_ := fun p : Phase => { tDriving p tStandby with
      cycle := { (tDriving p tStandby).cycle with composed := some tCommands } }
    let unanswered := at_ (.window (.sending false 30#8))
    let e : DownEntry := { frame := tFrame 30#8 1#8 0x40#8 0, awaited := true }
    let headed := fun due : Nat => { unanswered with
      switch := { unanswered.switch with down := [e] }, cycle := { unanswered.cycle with nextDue := some due } }
    let need := 5 * (wire e.frame).length + tLine.record.reportTimeout
    let deferred := { unanswered with cycle := { unanswered.cycle with deferred := true, nextDue := some 200 } }
    let cut := { at_ .sync with cycle := { (at_ .sync).cycle with cutPending := true } }
    let two := { at_ .sync with portD := { (at_ .sync).portD with waiting := [tFrame 21#8 12#8 0x31#8 17] } }
    tStandby.portD.tx = none
    ∧ ((at_ .sync).portD.tx = some tSending ∧ (at_ .sync).portD.waiting = [] ∧ (at_ .sync).cycle.cutPending = false
      ∧ (at_ .sync).mode.line = some tLine)
    ∧ (at_ .sync).cycle.phase = .sync ∧ (at_ .sync).cycle.composed = some tCommands
    ∧ (at_ (.setpoint .two)).cycle.phase = .setpoint .two
    ∧ (at_ (.window (.sending true 30#8))).cycle.phase = .window (.sending true 30#8)
    ∧ (unanswered.cycle.phase = .window (.sending false 30#8) ∧ unanswered.switch.down = []
      ∧ unanswered.cycle.deferred = false)
    ∧ ((headed 0).switch.down = e :: [] ∧ (headed 0).cycle.deferred = false
      ∧ (headed (200 + need)).cycle.nextDue = some (200 + need) ∧ max unanswered.now tSending.endsAt = 200
      ∧ need ≤ 200 + need - 200 ∧ 200 + (need - 1) - 200 < need)
    ∧ (deferred.cycle.deferred = true ∧ deferred.cycle.nextDue = some 200 ∧ 200 ≤ max deferred.now tSending.endsAt)
    ∧ (cut.cycle.cutPending = true ∧ cut.portD.tx = some tSending ∧ cut.mode.line = some tLine)
    ∧ (two.portD.tx = some tSending ∧ two.portD.waiting = tFrame 21#8 12#8 0x31#8 17 :: []) := by decide +kernel

/-! ## Witnesses: positions and pressures -/

/-- A positive divisor with a quotient halfway between two integers. -/
theorem witness_TravelDifferenceAndRounding : 0 < 10 ∧ (2 * ((-35 : Int) - roundDiv (-35) 10 * 10)).natAbs = 10 := by
  decide

/-- The spruce at its bounds Pmin and Pmax and above them, under a ceiling within its range and below Pmin, and at the
edges of the slew limit. -/
theorem witness_PressureIsClampedThenSlewed :
    tSpruce.pMin ≤ tSpruce.pMax ∧ ((1500 : Int) ≤ tSpruce.pMin ∧ tSpruce.pMin ≤ 12000)
    ∧ ((tSpruce.pMin : Int) ≤ 9000 ∧ (9000 : Int) ≤ tSpruce.pMax ∧ (9000 : Int) ≤ ((12000 : Nat) : Int))
    ∧ ((tSpruce.pMax : Int) ≤ 9000 ∧ (tSpruce.pMax : Int) ≤ 9001 ∧ tSpruce.pMax ≤ 9000)
    ∧ (((8000 : Nat) : Int) ≤ max (tSpruce.pMin : Int) (min 8000 tSpruce.pMax)
      ∧ ((1000 : Nat) : Int) ≤ max (tSpruce.pMin : Int) (min 0 tSpruce.pMax))
    ∧ (clampPressure tSpruce 12000 9000 - ((8700 : Nat) : Int)).natAbs ≤ 300
    ∧ 300 < (clampPressure tSpruce 12000 9000 - ((8699 : Nat) : Int)).natAbs := by decide

theorem witness_CurvePassesThroughItsPoints :
    let c := [(100, 2400), (250, 3800), (450, 5200)]
    c.Pairwise (fun u v => u.1 < v.1) ∧ c.head? = some (100, 2400) ∧ c.getLast? = some (450, 5200)
    ∧ (250, 3800) ∈ c ∧ c = [(100, 2400)] ++ (250, 3800) :: (450, 5200) :: []
    ∧ ((250 : Int) ≤ 250 ∧ (250 : Int) ≤ 450) ∧ ((250 : Int) ≤ 449 ∧ (449 : Int) ≤ 450) := by decide

/-- STANDBY; a DISABLED channel; an IDLE station; a station ENGAGED with the log at its butt, ahead of another; a log
with a profile, with a taper, and with no length. -/
theorem witness_CompositionFollowsTheStations :
    let s := tStations (.engaged 41) .idle (tQueue (tLog 41 24300) tRun)
    let profiled := { tLog 41 24300 with profile := [(0, 330), (5200, 180)] }
    let unknown := { tLog 41 24300 with length := none }
    let two := fun r : LogRecord => { s with tracker := { s.tracker with queue := [r, tLog 42 13000] } }
    tStandby.mode.mode.works = false ∧ Channel.reset.state ≠ .ready ∧ (∀ j, tRun.arms.stations.get .one ≠ .engaged j)
    ∧ s.mode.mode.works = true ∧ tChannel.state = .ready ∧ s.arms.stations.get .one = .engaged 41
    ∧ s.mode.line = some tLine ∧ (∃ b5 b6, s.target tLine .one 0 41 = some (b5, b6))
    ∧ (∃ r e, s.record? 41 = some r ∧ (s.tables.bank r.bank).entry r.species = some e)
    ∧ (∀ r ∈ [tLog 41 24300, profiled, unknown], (two r).tracker.queue = [] ++ r :: [tLog 42 13000] ∧ r.id = 41
      ∧ ((two r).tables.bank r.bank).entry r.species = some tSpruce) := by
  refine ⟨by decide, by decide, (by intro j h; cases h), by decide, by decide, by decide, by decide, ⟨_, _, rfl⟩,
    ⟨_, _, rfl, rfl⟩, ?_⟩
  intro r hr
  simp only [List.mem_cons, List.not_mem_nil, or_false] at hr
  obtain rfl | rfl | rfl := hr <;> exact ⟨rfl, rfl, rfl⟩

/-! ## Witnesses: log records -/

/-- A scan of log 42, 5200 mm, its butt at the scan line, its temperature −12.0 °C. -/
def tScan (profile : Nat) : List Byte :=
  [42#8] ++ be8 0 ++ be8 90 ++ be16 330 ++ be16 180 ++ be16 5200 ++ be8 1 ++ beS16 (-120) ++ be16 0 ++ be8 profile
    ++ (List.range profile).flatMap (fun j => be16 (1000 * j) ++ be16 (330 - 10 * j))

/-- The butt of a scan at this travel count. -/
def tScanButt : Travel := (0#24 : Travel) - BitVec.ofInt 24 (roundDiv ((min (rd16 (tScan 0) 12) 30000 : Nat) * 1000) 500)

theorem witness_LogScanDiscarded :
    let f := { tStandbyOn tLineF with cycle := { (tStandbyOn tLineF).cycle with phase := .window .closed } }
    let many := { tRun with tracker := { tRun.tracker with
      queue := (List.range 16).map (fun i => tLog (100 - i) (16 - i)), nextId := 101 } }
    (255#8 : Byte) ≠ 0#8 ∧ ¬ (240 ≤ (255#8).toNat ∧ (255#8).toNat ≤ 253)
    ∧ tStandby.mode.line = some tLine ∧ tLine.record.forwardLogs = false ∧ tStandby.mode.mode ≠ .run
    ∧ ¬ (15 ≤ (tScan 0).tail.length)
    ∧ (∃ r ∈ (tQueue (tLog 42 9) tRun).tracker.queue, r.tag = some ((tScan 0).getD 0 0#8))
    ∧ (∃ r, (tQueue (tLog 41 0) tRun).tracker.queue.getLast? = some r
        ∧ travelDiff 0#24 r.b ≤ travelDiff 0#24 tScanButt)
    ∧ tLine.counts.eye.one - tLine.counts.tolerance ≤ travelDiff (22100#24 + tScanButt) tScanButt
    ∧ many.mode.mode = .run ∧ 16 ≤ many.tracker.queue.length
    ∧ (15 ≤ (tScan 0).length ∧ (tScan 0).length = 15 + 4 * rd8 (tScan 0) 14)
    ∧ ¬ (∃ r ∈ many.tracker.queue, r.tag = some ((tScan 0).getD 0 0#8))
    ∧ (∀ r ∈ many.tracker.queue.getLast?, ¬ travelDiff 0#24 r.b ≤ travelDiff 0#24 tScanButt)
    ∧ ¬ (tLine.counts.eye.one - tLine.counts.tolerance ≤ travelDiff 0#24 tScanButt)
    ∧ tLineF.record.forwardLogs = true ∧ f.mode.line = some tLineF ∧ f.mode.mode = .standby
    ∧ f.cycle.phase ≠ .window .idle
    ∧ (f.switch.down.map (fun e => 4 + e.frame.payload.length)).sum + (4 + (tScan 0).length) ≤ 1024
    ∧ State.reset.mode.line = none := by
  refine ⟨by decide, by decide, by decide, by decide, by decide, by decide, by decide, ⟨_, rfl, by decide⟩, ?_⟩
  decide +kernel

/-- A scan with no profile and one with eight stations, after a record one count downstream. -/
theorem witness_LogScanAppendsRecord :
    let s := tQueue (tLog 41 1) tRun
    (255#8 : Byte) ≠ 0#8 ∧ ¬ (240 ≤ (255#8).toNat ∧ (255#8).toNat ≤ 253)
    ∧ s.mode.line = some tLine ∧ tLine.record.forwardLogs = false ∧ 2000 ≤ tLine.record.maxLength ∧ s.mode.mode = .run
    ∧ s.tables.mark = some .a
    ∧ (∀ n ∈ [0, 8], 15 ≤ (tScan n).length ∧ (tScan n).length = 15 + 4 * rd8 (tScan n) 14)
    ∧ (∀ r ∈ s.tracker.queue, r.tag ≠ some ((tScan 8).getD 0 0#8))
    ∧ (∀ r ∈ s.tracker.queue.getLast?, travelDiff s.travel.t tScanButt < travelDiff s.travel.t r.b)
    ∧ travelDiff s.travel.t tScanButt < tLine.counts.eye.one - tLine.counts.tolerance
    ∧ s.tracker.queue.length < 16 ∧ (∀ r ∈ s.tracker.queue, r.id < s.tracker.nextId)
    ∧ rd8 (tScan 8) 9 ≠ 0 ∧ (2 ≤ rd8 (tScan 8) 14 ∧ rd8 (tScan 8) 14 ≤ 8)
    ∧ ((List.range 8).map (fun j => (rd16 (tScan 8) (15 + 4 * j), rd16 (tScan 8) (17 + 4 * j)))).Pairwise
        (fun u v => u.1 < v.1)
    ∧ 0 ≤ tLine.counts.tolerance ∧ firstFault (lineConditions tLine.record) = none
    ∧ tLine.counts = lineCounts tLine.record ∧ tLine.inUse .two = true := by decide +kernel

/-- A log frame whose copy is offered downstream in RUN: with forwarding idle and the copy's need the very time left and
one µs more, with forwarding closed, and without room. -/
theorem witness_copies_offered :
    let s := tQueue (tLog 41 1) (tRunOn tLineF)
    let copy := Frame.mk 255#8 1#8 0x10#8 (tScan 0)
    let void := Frame.mk 255#8 1#8 0x11#8 [41#8]
    let down : List DownEntry := List.replicate 256 { frame := tFrame 30#8 1#8 0x60#8 0, awaited := false }
    tLineF.record.forwardLogs = true ∧ s.mode.line = some tLineF ∧ s.mode.mode = .run ∧ s.cycle.phase = .window .idle
    ∧ s.cycle.nextDue = some 5000 ∧ s.switch.down = [] ∧ s.portD.tx = none
    ∧ (∀ f ∈ [copy, void], (s.switch.down.map (fun e => 4 + e.frame.payload.length)).sum + (4 + f.payload.length) ≤ 1024
      ∧ ¬ ((down.map (fun e => 4 + e.frame.payload.length)).sum + (4 + f.payload.length) ≤ 1024)
      ∧ 5 * (wire f).length ≤ 5 * (wire f).length - s.now ∧ 5 * (wire f).length - 1 - s.now < 5 * (wire f).length)
    ∧ (tPhase (.window .closed) s).cycle.phase ≠ .window .idle := by decide +kernel

/-- R9, R10, R156: an accepted LOG_SCAN in RUN makes its record, and its copy goes out at once. -/
theorem test_accepted_scan_is_forwarded :
    (tAfter (.logScan 255#8 1#8 (tScan 0)) (tRunOn tLineF)).map
        (fun t => (t.tracker.queue.length, t.portD.tx.map (fun x => x.frame.kind), t.cycle.phase))
      = some (1, some 0x10#8, .window (.sending false 255#8)) := by decide +kernel

/-- A tag that no record holds; and, in FINISHING with station 1 in LOCKOUT, the last record, bound to a RETIRING bank. -/
theorem witness_LogVoidRemovesUnconfirmed :
    let s := tLogged
    let t := tMode .finishing (tStations .lockout .idle
      { tLogged with tables := { tLogged.tables with a := { tLogged.tables.a with state := .retiring } } })
    (255#8 : Byte) ≠ 0#8 ∧ ¬ (240 ≤ (255#8).toNat ∧ (255#8).toNat ≤ 253) ∧ s.mode.line = some tLine
    ∧ tLine.record.forwardLogs = false
    ∧ (∀ y ∈ s.tracker.queue, ∀ g, [42#8] = [g] → y.tag = some g → y.at1.confirmed ≠ .no)
    ∧ (t.mode.line = some tLine ∧ t.tracker.queue = [] ++ tLog 41 22000 :: []
      ∧ (t.tracker.queue.map LogRecord.id).Nodup ∧ t.mode.mode = .finishing ∧ t.arms.stations.one = .lockout)
    ∧ (tLog 41 22000).tag = some 41#8 ∧ (tLog 41 22000).at1.confirmed = .no ∧ State.reset.mode.line = none := by
  refine ⟨by decide, by decide, by decide, by decide, ?_, ⟨by decide, rfl, by decide, by decide, by decide⟩, by decide,
    by decide, by decide⟩
  intro y hy g hg ht
  cases hg
  obtain rfl : y = tLog 41 22000 := by simpa [tLogged, tQueue] using hy
  exact absurd ht (by decide)

/-! ## Witnesses: requests -/

theorem witness_RequestsDiscardedOrMalformed :
    isRequestRow (.requestOverflow 1#8 []) = true ∧ isRequestRow (.lineReset 1#8 1#8) = true
    ∧ ¬ (tFull tStandby).slotFree ∧ State.reset.slotFree ∧ bodyLength? (14#8).toNat = some 0 ∧ [0#8].length ≠ 0
    ∧ (0#8 : Byte) = 0#8 ∧ 15 ≤ (15#8).toNat := by decide

theorem witness_RequestFramesReachTheirRows :
    tStandby.switch.ownAddr ≠ 0#8 ∧ ¬ (240 ≤ tStandby.switch.ownAddr.toNat ∧ tStandby.switch.ownAddr.toNat ≤ 253)
    ∧ tImage.length = 46 ∧ tEntryImage.length = 46 ∧ (List.replicate 20 (0#8 : Byte)).length = 20
    ∧ 5 ≤ (5#8).toNat ∧ 3 ≤ (3#8).toNat ∧ 2 ≤ (2#8).toNat ∧ 15 ≤ (15#8).toNat
    ∧ bodyLength? (1#8).toNat = some 46 ∧ tImage.tail.length ≠ 46 ∧ bodyLength? (14#8).toNat = some 0
    ∧ [0#8].length ≠ 0 := by decide +kernel

theorem tImage_ok (n : Nat) : LineFieldOk tImage n := by
  unfold LineFieldOk
  dsimp only
  split <;> decide +kernel

theorem tEntryImage_ok (n : Nat) : EntryFieldOk tEntryImage n := by
  unfold EntryFieldOk
  dsimp only
  split <;> decide +kernel

/-- A record whose first field at fault is 4, in STANDBY; and the same in RUN. -/
theorem witness_LineLoadRefused :
    let bad := tImage.take 3 ++ be8 12 ++ tImage.drop 4
    tStandby.slotFree ∧ bad.length = 46 ∧ tRun.slotFree ∧ tRun.mode.mode = .run ∧ tStandby.mode.mode = .standby
    ∧ FirstFault (LineFieldOk bad) 4 := by
  refine ⟨by decide, by decide +kernel, by decide, by decide, by decide, by simp only [LineFieldOk]; decide +kernel, ?_⟩
  intro m hm
  interval_cases m <;> simp only [LineFieldOk] <;> decide +kernel

theorem reset_modeOk : State.reset.ModeOk :=
  ⟨by decide, by decide, by decide, by decide, by decide, by decide, by decide, by decide, by decide, by decide⟩

theorem idle_tables {s : State} (ha : s.BankOk .a) (hb : s.BankOk .b) (hc : s.tables.copy = none)
    (hw : s.mode.mode.works = true → s.tables.mark ≠ none) (hf : s.requests.inFlight = none)
    (hq : s.tracker.queue = []) : s.TablesOk where
  bank_a := ha
  bank_b := hb
  source := by intro c h; rw [hc] at h; cases h
  working := hw
  flight := by rw [hc, hf]; rfl
  fresh := by rw [hq]; intro r h; cases h
  distinct := by rw [hq]; decide

/-- A state with one byte of a good notice still to come on Port D, and that byte in front of its queue. -/
def tLastByte (s : State) : State :=
  { s with portD := { s.portD with rx := tEnding }, pending := [.receiveByte .d 0xFF#8] }

/-- The frame of such a state ends now. -/
theorem tLastByte_endsNow (s : State) : (tLastByte s).EndsNow :=
  have good : tEnding.completes 0xFF#8 (tFrame 30#8 1#8 0x60#8 0) :=
    ⟨0xFF#8, 0#8, rfl, rfl, .inl (by decide), rfl, by decide +kernel⟩
  ⟨_, _, rfl, .inl ⟨_, good⟩⟩

/-- In UNSET and in STANDBY, a frame in reception with its last byte waiting. -/
theorem witness_LineLoadAccepted_receiving :
    ((tLastByte State.reset).slotFree ∧ (tLastByte State.reset).ModeOk ∧ (tLastByte State.reset).TablesOk
      ∧ (tLastByte State.reset).mode.mode = .unset ∧ (tLastByte State.reset).portD.tx = none
      ∧ (tLastByte State.reset).portD.rx.phase ≠ .hunt ∧ (tLastByte State.reset).EndsNow)
    ∧ ((tLastByte tStandby).slotFree ∧ (tLastByte tStandby).ModeOk ∧ (tLastByte tStandby).TablesOk
      ∧ (tLastByte tStandby).mode.mode = .standby ∧ (tLastByte tStandby).portD.tx = none
      ∧ (tLastByte tStandby).portD.rx.phase ≠ .hunt ∧ (tLastByte tStandby).EndsNow) := by
  refine ⟨⟨by decide, ?_, idle_tables ?_ ?_ rfl (by decide) rfl rfl, rfl, rfl, by decide, tLastByte_endsNow _⟩,
    ⟨by decide, ?_, idle_tables ?_ ?_ rfl (by decide) rfl rfl, rfl, rfl, by decide, tLastByte_endsNow _⟩⟩
    <;> constructor <;> decide

/-- R3, R144, R164: LINE_LOAD in UNSET is no cut and aborts the frame in reception, whatever byte waits; in STANDBY it
cuts the cycle, and the frame that ends with the cut is kept uncounted (R162). -/
theorem test_line_load_and_a_reception :
    (tAfter (.lineLoad 1#8 7#8 tImage) (tLastByte State.reset)).map
        (fun t => (t.portD.cut, t.requests.counters.framesAborted)) = some (none, 1)
    ∧ (tAfter (.lineLoad 1#8 7#8 tImage) (tLastByte tStandby)).map
        (fun t => (t.portD.cut, t.requests.counters.framesAborted)) = some (some { rx := tEnding, moment := 0 }, 0) := by
  decide +kernel

/-- In UNSET after reset; and in STANDBY with the trip input asserted, and with the encoder failed. -/
theorem witness_LineLoadAccepted :
    let trip := { tStandby with inputs := { tStandby.inputs with trip := true } }
    let failed := { tStandby with travel := { tStandby.travel with failed := true } }
    (State.reset.slotFree ∧ State.reset.ModeOk ∧ State.reset.TablesOk ∧ State.reset.mode.mode = .unset
      ∧ State.reset.portD.tx = none ∧ State.reset.arms.channels.one.length = 5
      ∧ State.reset.arms.channels.two.length = 5)
    ∧ tImage.length = 46 ∧ (∀ n, LineFieldOk tImage n)
    ∧ (trip.ModeOk ∧ trip.TablesOk ∧ trip.mode.mode = .standby ∧ trip.inputs.trip = true)
    ∧ (failed.ModeOk ∧ failed.TablesOk ∧ failed.inputs.trip = false ∧ failed.travel.failed = true) := by
  refine ⟨⟨by decide, reset_modeOk, idle_tables ?_ ?_ rfl (by decide) rfl rfl, rfl, rfl, rfl, rfl⟩, by decide +kernel,
    tImage_ok, ⟨?_, idle_tables ?_ ?_ rfl (by decide) rfl rfl, rfl, rfl⟩,
    ⟨?_, idle_tables ?_ ?_ rfl (by decide) rfl rfl, rfl, rfl⟩⟩ <;> constructor <;> decide

/-- STANDBY with a bank ACTIVE and with none; RUN with a record, with none, and with station 1 in LOCKOUT; FINISHING. -/
theorem witness_ModeSetRunFinishStop :
    let none_ := { tStandby with tables := State.reset.tables }
    tStandby.slotFree ∧ tStandby.mode.mode = .standby ∧ tStandby.mode.line = some tLine ∧ tStandby.tables.mark = some .a
    ∧ none_.mode.mode = .standby ∧ none_.tables.mark = none
    ∧ tLogged.slotFree ∧ tLogged.mode.mode = .run ∧ tLogged.tracker.queue ≠ []
    ∧ tRun.slotFree ∧ tRun.mode.mode = .run ∧ tRun.tracker.queue = []
    ∧ ((tStations .lockout .idle tRun).mode.mode = .run ∧ (tStations .lockout .idle tRun).tracker.queue = []
      ∧ (tStations .lockout .idle tRun).arms.stations.get .one ≠ .idle ∧ (tStations .lockout .idle tRun).slotFree)
    ∧ (tMode .finishing tLogged).mode.mode = .finishing := by decide

/-- R19, R129, R119: FINISH with nothing queued sets a station in LOCKOUT IDLE and completes its pending restore. -/
theorem test_finish_frees_lockout :
    let held := { tChannel with state := .isolated, pendingRestore := true }
    let s := tStations .lockout .idle { tRun with
      arms := { tRun.arms with channels := { tRun.arms.channels with one := [held] } } }
    (tAfter (.modeSetFinish 1#8 7#8) s).map
        (fun t => (t.mode.mode, t.arms.stations.one, t.arms.channels.one.map (fun c => (c.state, c.pendingRestore))))
      = some (.standby, .idle, [(.ready, false)]) := by decide

theorem witness_ModeSetClearLeavesTripped :
    let held := fun (trip failed disturbed : Bool) => { tTripped .encoder with
      inputs := { tStandby.inputs with trip := trip }
      travel := { tStandby.travel with failed := failed, disturbed := disturbed } }
    (held false false false).slotFree ∧ (held false false false).mode.mode = .tripped
    ∧ (∀ a b c, (held a b c).ModeOk)
    ∧ (held true false false).inputs.trip = true
    ∧ (held false true true).travel.failed = true ∧ (held false true true).travel.disturbed = true
    ∧ (held false true false).travel.disturbed = false ∧ (held false false false).travel.failed = false := by
  refine ⟨by decide, by decide, ?_, by decide, by decide, by decide, by decide, by decide⟩
  intro a b c
  cases a <;> cases b <;> cases c <;> constructor <;> decide

theorem witness_ModeSetRefused :
    tRun.slotFree ∧ tRun.mode.mode ≠ .standby ∧ tStandby.slotFree ∧ tStandby.mode.mode ≠ .run
    ∧ tStandby.mode.mode ≠ .finishing ∧ tStandby.mode.mode ≠ .tripped ∧ (0#8 : Byte) = 0#8 ∧ 5 ≤ (5#8).toNat := by decide

theorem witness_AmbientSetStoresInRange : State.reset.slotFree ∧ (501#16).toInt = 501 ∧ (65035#16).toInt = -501 := by decide

/-- Bank B as target beside an ACTIVE bank A, bank A as target with none ACTIVE. -/
theorem witness_TableOpenTakesTarget :
    let b := fun st : BankState => tBankB { Bank.reset with state := st } tStandby
    (tStandby.slotFree ∧ tStandby.tables.mark = some BankId.b.other)
    ∧ (State.reset.slotFree ∧ State.reset.tables.mark = none) ∧ 3 ≤ (3#8).toNat
    ∧ ((b .copying).tables.bank .b).state = .copying ∧ ((b .retiring).tables.bank .b).state = .retiring
    ∧ (b .loading).slotFree ∧ ((b .loading).tables.bank .b).state ≠ .copying
    ∧ ((b .loading).tables.bank .b).state ≠ .retiring
    ∧ (State.reset.tables.bank .a).state ≠ .copying ∧ (State.reset.tables.bank .a).state ≠ .retiring := by decide

/-- Items 0, 31 and 32 of a copy. -/
theorem witness_CopyItemMovesInOrder :
    let c := fun n => { source := .a, dest := .b, start := 0, item := n : CopyEngine }
    tStandby.tables.copy = none
    ∧ ((tCopying 0).tables.copy = some (c 0) ∧ (c 0).item < 32) ∧ ((tCopying 31).tables.copy = some (c 31) ∧ (c 31).item < 32)
    ∧ (tCopying 32).tables.copy = some (c 32) ∧ 32 ≤ (c 32).item
    ∧ (tCopying 32).requests.inFlight = some { num := 5#8, dest := 1#8 } := by decide

/-- A valid entry and trims at their bounds; an entry of code 32; a trim of 801 in field 10 and of −801 in field 1. -/
theorem witness_TableWritesFollowTargetState :
    let b := fun st : BankState => tBankB { Bank.reset with state := st } tStandby
    let trims := (List.range 10).flatMap (fun i => beS16 (if i % 2 = 0 then -800 else 800))
    let bad := trims.take 18 ++ beS16 801
    let worse := beS16 (-801) ++ trims.drop 2
    let inRange := fun (p : List Byte) (m : Nat) => -800 ≤ rdS16 p (2 * m - 2) ∧ rdS16 p (2 * m - 2) ≤ 800
    tStandby.slotFree ∧ tStandby.tables.mark = some BankId.b.other ∧ tEntryImage.length = 46 ∧ trims.length = 20
    ∧ ((b .loading).tables.bank .b).state = .loading ∧ (∀ m, EntryFieldOk tEntryImage m)
    ∧ ((be8 32 ++ tEntryImage.drop 1).length = 46 ∧ FirstFault (EntryFieldOk (be8 32 ++ tEntryImage.drop 1)) 1)
    ∧ (∀ m, m < 11 → 1 ≤ m → inRange trims m)
    ∧ (bad.length = 20 ∧ ¬ inRange bad 10 ∧ (∀ m, m < 10 → 1 ≤ m → inRange bad m))
    ∧ (worse.length = 20 ∧ ¬ inRange worse 1)
    ∧ ((b .copying).tables.bank .b).state = .copying ∧ ((b .idle).tables.bank .b).state = .idle := by
  refine ⟨by decide, by decide, by decide +kernel, by decide, by decide, tEntryImage_ok,
    ⟨by decide +kernel, by simp only [EntryFieldOk]; decide +kernel, ?_⟩, by decide +kernel, by decide +kernel,
    by decide +kernel, by decide⟩
  intro m hm
  interval_cases m
  trivial

theorem witness_TableCloseAndSwap :
    let b := fun st : BankState => tBankB (tBank st) tStandby
    tStandby.slotFree ∧ tStandby.tables.mark = some BankId.b.other
    ∧ (((b .loading).tables.bank .b).state = .loading ∧ ((b .loading).tables.bank .b).entry 0 ≠ none)
    ∧ Bank.reset.entry 0 = none ∧ ((b .copying).tables.bank .b).state = .copying
    ∧ ((b .idle).tables.bank .b).state = .idle
    ∧ (((b .ready).tables.bank .b).state = .ready ∧ ((b .ready).tables.bank BankId.b.other).state ≠ .ready)
    ∧ (∀ any, (tStandby.tables.bank any).state ≠ .ready) := by
  refine ⟨by decide, by decide, by decide, by decide, by decide, by decide, by decide, ?_⟩
  intro any; cases any <;> decide

theorem witness_TableReadReturnsImages :
    let trimmed := tBankB { Bank.reset with trims := some (List.replicate 10 0) } tStandby
    let loading := tBankB { Bank.reset with state := .loading } tStandby
    tStandby.slotFree ∧ 3 ≤ (3#8).toNat ∧ (1#8).toNat = BankId.a.code ∧ (2#8).toNat = BankId.b.code
    ∧ (32 ≤ (32#8).toNat ∧ (254#8 : Byte) ≠ 255#8) ∧ ((31#8).toNat < 32 ∧ (tStandby.tables.bank .a).entry 31 = none)
    ∧ (tStandby.tables.bank .a).trims = none ∧ (tStandby.tables.bank .a).entry 0 = some tSpruce
    ∧ (trimmed.tables.bank .b).trims = some (List.replicate 10 0)
    ∧ (loading.slotFree ∧ loading.tables.mark = some BankId.b.other ∧ (loading.tables.bank .b).state = .loading
      ∧ (loading.tables.bank .b).entries.length = 32 ∧ tEntryImage.length = 46 ∧ tEntryImage.getD 0 0#8 = 0#8)
    ∧ (∀ n, EntryFieldOk tEntryImage n)
    ∧ (∃ t, exec (.tableEntry 1#8 7#8 tEntryImage) loading = .next t ∧ t.slotFree)
    ∧ (let p := (List.range 10).flatMap (fun i => beS16 (if i % 2 = 0 then -800 else 800))
       p.length = 20 ∧ (∀ m, m < 10 → -800 ≤ rdS16 p (2 * m) ∧ rdS16 p (2 * m) ≤ 800)
       ∧ ∃ t, exec (.tableTrim 1#8 7#8 p) loading = .next t ∧ t.slotFree) := by
  refine ⟨by decide, by decide, by decide, by decide, by decide, by decide, by decide, by decide, by decide,
    by decide +kernel, tEntryImage_ok, ⟨_, rfl, by decide +kernel⟩, by decide +kernel, by decide +kernel,
    ⟨_, rfl, by decide +kernel⟩⟩

/-- The first and the last channel, DISABLED, READY and ISOLATED. -/
theorem witness_ArmRestoreByTheTable :
    let isolated := { tChannel with state := .isolated }
    let iso := fun s : State => { s with arms := { s.arms with
      channels := { one := isolated :: List.replicate 4 tChannel, two := List.replicate 4 tChannel ++ [isolated] } } }
    let busy := iso (tStations (.engaged 41) .lockout tLogged)
    tStandby.slotFree ∧ tStandby.arms.channels.one.length = 5 ∧ tStandby.arms.channels.two.length = 5
    ∧ 11 ≤ (11#8).toNat
    ∧ (State.reset.mode.mode = .unset ∧ State.reset.arms.channels.one[0]? = some Channel.reset)
    ∧ (tStandby.mode.mode ≠ .unset ∧ Channel.reset.state = .disabled)
    ∧ (tStandby.arms.channels.two[4]? = some tChannel ∧ (10#8).toNat = 4 + 6 ∧ tChannel.state = .ready)
    ∧ ((iso tStandby).arms.channels.one[0]? = some isolated ∧ isolated.state = .isolated
      ∧ (iso tStandby).mode.mode = .standby)
    ∧ (busy.arms.channels.two[4]? = some isolated ∧ busy.mode.mode ≠ .unset ∧ busy.slotFree
      ∧ ¬ (busy.mode.mode = .standby ∨ busy.mode.mode = .tripped ∨ busy.arms.stations.get .two = .idle)) := by decide

theorem witness_ReportsChangeNothing :
    tLogged.slotFree ∧ tLogged.arms.channels.one.length = 5 ∧ tLogged.arms.channels.two.length = 5
    ∧ tLogged.inputs.rotors.one.speed ≤ 65535 := by decide

theorem witness_CountersReadAndClear : State.reset.slotFree ∧ (2#8 : Byte) ≠ 0#8 ∧ (2#8 : Byte) ≠ 1#8 := by decide

/-- A rotor with a reference, whose next pulse comes at the end of its 2000 ms. -/
theorem witness_ResetsRestartTravelAndRotors :
    tRun.slotFree ∧ (tRun.inputs.rotors.get .one).ref = some 1000 ∧ 1000 < 2001000 ∧ 2001000 ≤ 1000 + 2000000
    ∧ tRun.mode.line = some tLine := by decide

/-- In UNSET and in STANDBY, a frame in reception; with a line record, one whose last byte waits and one whose does not. -/
theorem witness_LineResetRestartsTheLine_receiving :
    let begun := tRxD .header false [] tStandby
    ((tLastByte State.reset).ModeOk ∧ (tLastByte State.reset).mode.mode = .unset
      ∧ (tLastByte State.reset).portD.rx.phase ≠ .hunt)
    ∧ ((tLastByte tStandby).ModeOk ∧ (tLastByte tStandby).mode.line = some tLine
      ∧ (tLastByte tStandby).portD.tx = none ∧ (tLastByte tStandby).EndsNow)
    ∧ (begun.ModeOk ∧ begun.mode.line = some tLine ∧ begun.portD.tx = none ∧ begun.portD.rx.phase ≠ .hunt
      ∧ ¬ begun.EndsNow) := by
  refine ⟨⟨?_, rfl, by decide⟩, ⟨?_, rfl, rfl, tLastByte_endsNow _⟩, ⟨?_, rfl, rfl, by decide, ?_⟩⟩
  case refine_4 => rintro ⟨b, rest, h, -⟩; cases h
  all_goals constructor <;> decide

/-- In UNSET, in STANDBY with the trip input asserted and released, and with a frame on Port D. -/
theorem witness_LineResetRestartsTheLine :
    let trip := { tStandby with inputs := { tStandby.inputs with trip := true } }
    let driving := tDriving .sync tStandby
    (State.reset.slotFree ∧ State.reset.ModeOk ∧ State.reset.mode.mode = .unset
      ∧ State.reset.arms.channels.one.length = 5 ∧ State.reset.arms.channels.two.length = 5)
    ∧ (trip.slotFree ∧ trip.ModeOk ∧ trip.mode.mode ≠ .unset ∧ trip.inputs.trip = true ∧ trip.mode.line = some tLine
      ∧ trip.portD.tx = none)
    ∧ (driving.ModeOk ∧ driving.inputs.trip = false ∧ driving.mode.line = some tLine
      ∧ driving.portD.tx = some tSending) := by
  refine ⟨⟨by decide, reset_modeOk, rfl, rfl, rfl⟩, ⟨by decide, ?_, by decide, rfl, rfl, rfl⟩, ⟨?_, rfl, rfl, rfl⟩⟩
    <;> constructor <;> decide

/-! ## Witnesses: travel, rotors, eyes and the trip input -/

/-- No change; a forward and a reverse transition, with the encoder OK and failed; an eye that the next count leaves
at the limit of R43, 16600 counts, and one that it carries past. -/
theorem witness_LegalTransitionsCount :
    let failed := { tStandby with travel := { tStandby.travel with failed := true } }
    let since := fun d : Int => { dark := true, fault := false, darkSince := some (BitVec.ofInt 24 (-d)) : Eye }
    tStandby.travel.lineA = false ∧ tStandby.travel.lineB = false
    ∧ (tStandby.travel.lineA, tStandby.travel.lineB, true, false) ∈ [(false, false, true, false)]
    ∧ (tStandby.travel.lineA, tStandby.travel.lineB, false, true) ∈ [(false, false, false, true)]
    ∧ failed.travel.failed = true ∧ tStandby.travel.failed = false ∧ tStandby.tracker.queue = []
    ∧ (∀ k, (tStandby.inputs.eyes.get k).dark = false ∨ (tStandby.inputs.eyes.get k).fault = true)
    ∧ ¬ (since 16599).blockedAt (some tLine) (tStandby.travel.t + 1#24)
    ∧ (since 16600).blockedAt (some tLine) (tStandby.travel.t + 1#24) := by
  refine ⟨by decide, by decide, by decide, by decide, by decide, by decide, by decide, ?_, ?_, ?_⟩
  · intro k; cases k <;> decide
  · rw [Eye.blockedAt_iff]; decide
  · rw [Eye.blockedAt_iff]; decide

/-- Counts of 0, 6, 7 and 255 before the transition. -/
theorem witness_IllegalTransitionsAndTripLevel :
    let at_ := fun (n : Nat) (f : Bool) (s : State) => { s with travel := { s.travel with illegal := n, failed := f } }
    let high := { tStandby with inputs := { tStandby.inputs with trip := true } }
    (true ≠ tStandby.travel.lineA ∧ true ≠ tStandby.travel.lineB)
    ∧ (at_ 255 true tStandby).travel.illegal ≤ 255 ∧ (at_ 255 true tStandby).travel.failed = true
    ∧ (at_ 6 false tStandby).travel.failed = false ∧ min 255 ((at_ 6 false tStandby).travel.illegal + 1) < 8
    ∧ 8 ≤ min 255 ((at_ 7 false State.reset).travel.illegal + 1) ∧ State.reset.mode.mode = .unset
    ∧ (tTripped .encoder).mode.mode = .tripped ∧ State.reset.inputs.trip = false ∧ high.inputs.trip = true := by decide

/-- RUN in node 1's report wait, one byte before the end of a frame. -/
def tTripping : State :=
  { tWait (.report .one) true tLogged with portD := { tLogged.portD with rx := tEnding } }

theorem witness_TripFlushesAndCutsCycle :
    let seven := { tLogged with travel := { tLogged.travel with illegal := 7 } }
    seven.mode.mode = .run ∧ tStandby.mode.mode = .standby ∧ (tMode .finishing tLogged).mode.mode = .finishing
    ∧ seven.mode.line = some tLine ∧ seven.inputs.trip = false ∧ true ≠ seven.travel.lineA ∧ true ≠ seven.travel.lineB
    ∧ seven.travel.failed = false ∧ seven.travel.illegal = 7 ∧ seven.portD.tx = none
    ∧ (tDriving .sync tLogged).portD.tx ≠ none ∧ 0 < tLine.record.period
    ∧ (tTripping.portD.rx.phase ≠ .hunt ∧ tTripping.portD.tx = none ∧ tTripping.mode.mode = .run) := by decide

/-- The last byte of a reception that a trip finds, waiting behind the trip's command; one that fails the CRC; and an IDLE
that waits there, with which the frame does not end now. -/
theorem witness_TripFlushesAndCutsCycle_last :
    tTripping.portD.rx.completes 0xFF#8 (tFrame 30#8 1#8 0x60#8 0)
    ∧ { tTripping with pending := [.receiveByte .d 0xFF#8] }.EndsNow
    ∧ { tTripping with pending := [.receiveByte .d 0xFE#8] }.EndsNow
    ∧ ¬ { tTripping with pending := [.receiveByte .d 0xB8#8] }.EndsNow ∧ ¬ tTripping.EndsNow := by
  have good : tEnding.completes 0xFF#8 (tFrame 30#8 1#8 0x60#8 0) :=
    ⟨0xFF#8, 0#8, rfl, rfl, .inl (by decide), rfl, by decide +kernel⟩
  refine ⟨good, ⟨_, _, rfl, .inl ⟨_, good⟩⟩, ⟨_, _, rfl, .inr ⟨tEnding.hunted, .crcFailed, ⟨by decide,
    .inr (.inr (.inr ⟨0xFE#8, 30#8, 1#8, 0x60#8, 0#8, rfl, rfl, .inl (by decide), by decide +kernel, rfl, rfl⟩))⟩,
    by decide⟩⟩, ?_, ?_⟩
  · rintro ⟨b, rest, h, hb⟩
    obtain rfl : b = 0xB8#8 := by cases h; rfl
    rcases hb with ⟨f, v, len, -, -, hr, -⟩ | ⟨r, x, ⟨-, ⟨h, -⟩ | ⟨-, -, h⟩ | ⟨_, _, _, _, _, h, -⟩ |
      ⟨v, d, sr, k, len, -, -, hr, -⟩⟩, hx⟩
    · simp [Receiver.reads, tTripping, tEnding] at hr
    · exact absurd h (by decide)
    · exact hx h
    · exact absurd h (by decide)
    · simp [Receiver.reads, tTripping, tEnding] at hr
  · rintro ⟨b, rest, h, -⟩
    cases h

/-- R162, R174: a good frame whose last byte comes together with the cut taken first is UNSOLICITED and not aborted; with
another byte in its place, or with the byte not there yet, the frame is aborted (R3) and no later byte is taken. No
counter falls on the way. -/
theorem test_frame_ending_with_the_cut :
    let counts := fun t : State => (t.requests.counters.framesAborted, t.requests.counters.dFramesOk,
      t.requests.counters.unsolicited, t.requests.counters.reportsMissing1)
    let stepped := fun o : Host.Outcome State Fault Refusal => match o with
      | .next t => some t
      | .fault _ => none
      | .refused _ => none
    let after := fun (n : Nat) (cs : List Instr) =>
      ((List.range n).foldl (fun o _ => o.bind (fun t => stepped (step t)))
        (some { tTripping with pending := .tripInputChange true :: cs })).map counts
    after 1 [.receiveByte .d 0xFF#8] = some (0, 0, 0, 0) ∧ after 2 [.receiveByte .d 0xFF#8] = some (0, 1, 1, 0)
    ∧ after 3 [.receiveByte .d 0xB7#8, .receiveByte .d 0xFF#8] = some (1, 0, 0, 0)
    ∧ after 1 [] = some (1, 0, 0, 0) := by
  decide +kernel

/-- Net counts −1 and 0; section 3.3's 180 counts in 100 ms at 500 µm give 900 mm/s; 800 counts reach 4000; no line. -/
theorem witness_SpeedWindowsAndDwell :
    let net := fun n : Int => { tStandby with travel := { tStandby.travel with net := n } }
    tStandby.mode.line = some tLine ∧ (net (-1)).travel.net ≤ 0 ∧ (net 0).travel.net ≤ 0
    ∧ (0 < (net 180).travel.net ∧ 900 * tLine.record.speedWindow ≤ (net 180).travel.net.toNat * tLine.record.pitch
      ∧ (net 180).travel.net.toNat * tLine.record.pitch < 901 * tLine.record.speedWindow ∧ 900 ≤ 4000)
    ∧ (0 < tLine.record.speedWindow
      ∧ 4000 * tLine.record.speedWindow ≤ (net 800).travel.net.toNat * tLine.record.pitch)
    ∧ State.reset.mode.line = none := by decide

/-- No reference; an edge at it; at the ends of its 2000 ms; with a line record in STANDBY and without one; a speed
below the under-speed value, at the restart speed and between. -/
theorem witness_RotorPulsesAndTimeout :
    let r := fun s : State => { s with inputs := { s.inputs with
      rotors := { s.inputs.rotors with one := { Rotor.reset with ref := some 1000 } } } }
    let fits := fun (n edge : Nat) => n * ((edge - 1000) * tLine.record.pulses) ≤ 60000000
      ∧ 60000000 < (n + 1) * ((edge - 1000) * tLine.record.pulses)
    State.reset.inputs.rotors.one.ref = none ∧ (r tStandby).inputs.rotors.one.ref = some 1000
    ∧ 1000 ≤ 1000 ∧ 1000 < 1001 ∧ 2001000 ≤ 1000 + 2000000 ∧ (r tStandby).mode.line = some tLine
    ∧ fits 7 2001000 ∧ 7 < tLine.record.underSpeed ∧ fits 450 34333 ∧ tLine.record.restartSpeed ≤ 450
    ∧ fits 400 38500 ∧ ¬ 400 < tLine.record.underSpeed ∧ tStandby.mode.mode.works = false
    ∧ (r State.reset).inputs.rotors.one.ref = some 1000 ∧ (r State.reset).mode.line = none
    ∧ 0 < tLine.record.underSpeed ∧ 1000 + 2000000 < 2001001
    ∧ (tRunOn tLine1).mode.line = some tLine1 ∧ tLine1.record.stations ≠ 2
    ∧ (tRunOn tLine1).inputs.rotors.two.ref = some 1000 := by decide +kernel

/-- In RUN: an IDLE station, one ENGAGED with log 41, one ENGAGED with it when it is lost-pending, and one in LOCKOUT
with no log and with log 41 across its contact line. -/
theorem witness_UnderSpeedLocksStationOut :
    let on : LogRecord := { tLog 41 24500 with
      at1 := { tStanding with confirmed := .byEye, window := .past, contact := .on } }
    let engaged := tStations (.engaged 41) .idle (tQueue on tRun)
    let lost : LogRecord := { on with at2 := { tStanding with lostPending := true } }
    let pend := tStations (.engaged 41) .idle (tQueue lost tRun)
    let slow := fun s : State => { s with inputs := { s.inputs with
      rotors := { s.inputs.rotors with one := { Rotor.reset with ref := some 1000 } } } }
    let locked := slow (tStations .lockout .idle tRun)
    let across := slow (tStations .lockout .idle (tQueue on tRun))
    let n := 60000000 / ((31000 - 1000) * tLine.record.pulses)
    tRun.mode.line = some tLine ∧ tRun.mode.mode.works = true ∧ tLine.record.stations = 2
    ∧ tRun.inputs.rotors.one.ref = some 1000 ∧ tRun.inputs.rotors.one.under = false ∧ 0 < tLine.record.underSpeed
    ∧ tRun.arms.stations.one = .idle
    ∧ (engaged.arms.stations.one = .engaged 41 ∧ engaged.record? 41 = some on ∧ on.pendingLoss = false)
    ∧ (pend.tracker.queue = [] ++ lost :: [] ∧ lost.at2.lostPending = true ∧ pend.arms.stations.one = .engaged lost.id
      ∧ pend.arms.stations.two ≠ .engaged lost.id ∧ pend.inputs.rotors.one.under = false)
    ∧ (60000000 / ((1000000 - 1000) * tLine.record.pulses) < tLine.record.underSpeed ∧ 1000 < 1000000
      ∧ 1000000 ≤ 1000 + 2000000)
    ∧ ((tStations .lockout .idle tRun).arms.stations.one = .lockout
      ∧ (tStations .lockout .idle tRun).inputs.rotors.one.under = false)
    ∧ (tStations (.engaged 41) (.engaged 41) (tQueue lost tRun)).arms.stations.two = .engaged lost.id
    ∧ ((slow tRun).inputs.rotors.one.under = true ∧ (slow tRun).arms.stations.one ≠ .lockout)
    ∧ (tLine.record.restartSpeed ≤ n ∧ tLine.record.underSpeed ≤ n
      ∧ locked.inputs.rotors.one.under = true ∧ locked.inputs.rotors.one.ref = some 1000 ∧ 1000 < 31000
      ∧ 31000 ≤ 1000 + 2000000 ∧ locked.arms.stations.one = .lockout ∧ across.arms.stations.one = .lockout)
    ∧ ¬ (∃ x ∈ locked.tracker.queue, (x.at .one).confirmed ≠ .no ∧ (x.at .one).tracked = true
        ∧ (x.at .one).contact = .on)
    ∧ (∃ x ∈ across.tracker.queue, (x.at .one).confirmed ≠ .no ∧ (x.at .one).tracked = true
        ∧ (x.at .one).contact = .on) := by decide +kernel

/-- The hypotheses common to the clauses of RecordsMeetTheStation, with the new travel count t. -/
def tMoves (s : State) (t : Travel) (r r0 : LogRecord) (front back after : List LogRecord) (l : Line) (k : Station) :
    Prop :=
  let pos := travelDiff t r.b
  let inUse := fun j : Station => j = .one ∨ l.record.stations = 2
  let other : Station := match k with | .one => .two | .two => .one
  let limited := r.length = none ∧ ∃ j, inUse j ∧ (r.at j).passedUnseen = false
    ∧ l.counts.contact.get j + l.counts.maxLength ≤ pos
  let longest := some { counts := l.counts.maxLength, mm := roundDiv (l.counts.maxLength * l.record.pitch) 1000 }
  s.mode.mode.works = true ∧ s.mode.line = some l ∧ inUse k ∧ s.travel.failed = false
    ∧ s.travel.lineA = false ∧ s.travel.lineB = false ∧ s.tracker.queue = front ++ r :: back
    ∧ (s.tracker.queue.map LogRecord.id).Nodup ∧ 0 ≤ l.counts.tolerance
    ∧ roundDiv (1000 * 1000) l.record.pitch ≤ l.counts.maxLength
    ∧ (∀ y ∈ front ++ back, y.still l t) ∧ (∀ j, ¬ (s.inputs.eyes.get j).blockedAt s.mode.line t)
    ∧ (inUse other → (r.at other).standsAt l.counts other r0.length pos)
    ∧ (limited → r0 = { r with length := longest } ∧ after = rejoinedNext l.counts.minGap (some r0) back)
    ∧ (¬ limited → r0 = r ∧ after = back)

/-- A standing and a record checked by the operations that judge positions. -/
def tStands (l : Line) (len : Option LogLength) (pos : Int) (k : Station) (x : Standing) : Bool :=
  x.window == windowPos l.counts k pos && x.contact == contactPos l.counts k len pos
def tStill (l : Line) (t : Travel) (y : LogRecord) : Bool :=
  y.length.isSome && tStands l y.length (travelDiff t y.b) .one y.at1 && tStands l y.length (travelDiff t y.b) .two y.at2
    && !y.at1.lostPending && !y.at2.lostPending

theorem still_of_check {l : Line} {t : Travel} {y : LogRecord} (h : 0 ≤ l.counts.tolerance) (c : tStill l t y = true) :
    y.still l t := by
  simp only [tStill, tStands, Bool.and_eq_true, beq_iff_eq, Bool.not_eq_true', Option.isSome_iff_exists] at c
  obtain ⟨⟨⟨⟨⟨n, hn⟩, h1⟩, h2⟩, h3⟩, h4⟩ := c
  exact LogRecord.still_of_positions h hn (fun k => by cases k <;> [exact ⟨h1.1, h1.2, h3⟩; exact ⟨h2.1, h2.2, h4⟩])

/-- The checks that give the common hypotheses for a record whose length is known. -/
theorem moves_of_checks {s : State} {t : Travel} {r : LogRecord} {front back : List LogRecord} {l : Line} {k : Station}
    (h : s.mode.mode.works = true ∧ s.mode.line = some l ∧ (k = .one ∨ l.record.stations = 2) ∧ s.travel.failed = false
      ∧ s.travel.lineA = false ∧ s.travel.lineB = false ∧ s.tracker.queue = front ++ r :: back
      ∧ (s.tracker.queue.map LogRecord.id).Nodup ∧ 0 ≤ l.counts.tolerance
      ∧ roundDiv (1000 * 1000) l.record.pitch ≤ l.counts.maxLength
      ∧ (front ++ back).all (tStill l t) = true ∧ eyeBlocked l.counts t s.inputs.eyes.one = false
      ∧ eyeBlocked l.counts t s.inputs.eyes.two = false
      ∧ (match k with
          | .one => tStands l r.length (travelDiff t r.b) .two r.at2
          | .two => tStands l r.length (travelDiff t r.b) .one r.at1) = true
      ∧ r.length ≠ none) :
    tMoves s t r r front back back l k := by
  obtain ⟨h1, h2, h3, h4, h5, h6, h7, h8, h9, h10, h11, h12, h13, h14, h15⟩ := h
  refine ⟨h1, h2, h3, h4, h5, h6, h7, h8, h9, h10, fun y hy => still_of_check h9 (List.all_eq_true.1 h11 y hy), ?_, ?_,
    fun hl => absurd hl.1 h15, fun _ => ⟨rfl, rfl⟩⟩
  · intro j
    rw [h2, Eye.blockedAt_iff]
    cases j <;> simp_all [Pair.get]
  · intro _
    rw [Standing.standsAt_iff h9]
    cases k <;> simpa [tStands, LogRecord.at] using h14

/-- Rising edges: on no line and at a station not in use; in the window of a record confirmed there; outside RUN; at
the butt count of a record; with sixteen queued; between two records, at each eye; a record at the upstream edge of its
window, and one with another ahead of it at the very count it would take. -/
theorem witness_EyeEdgesMarkLogs :
    let log := tAt tLine 0#24
    let s := fun (q : List LogRecord) => tMeets tLine q .idle .idle tClear
    let e := tLine.counts.eye
    let candidate := fun (k : Station) (x : LogRecord) =>
      (x.at k).window = .within ∧ (x.at k).confirmed = .no ∧ (x.at k).tracked = true
    let seen := fun (k : Station) (x : LogRecord) =>
      (x.at k).window = .within ∧ (x.at k).confirmed ≠ .no ∧ (x.at k).tracked = true
    let b := fun k : Station => 0#24 - BitVec.ofInt 24 (e.get k)
    let fresh := fun (k : Station) (q : List LogRecord) => ∀ x ∈ q, ¬ candidate k x ∧ ¬ seen k x ∧ x.b ≠ b k
    let ahead := log 40 (e.two + 600)
    let between := log 43 (e.one + 600)
    let last := log 42 (e.one - 600)
    let unmarked := { log 41 (e.one - 300) with at1 := { (log 41 (e.one - 300)).at1 with confirmed := .no } }
    let passed := { log 41 e.one with at1 := { (log 41 e.one).at1 with passedUnseen := true } }
    let many := (List.range 16).map (fun i => log i (10000 - i))
    let twin := { passed with id := 40 }
    (State.reset.mode.line = none ∧ State.reset.inputs.eyes.one = tClear)
    ∧ ((tRunOn tLine1).mode.line = some tLine1 ∧ tLine1.record.stations ≠ 2 ∧ (tRunOn tLine1).inputs.eyes.two = tClear)
    ∧ ((s [log 41 e.one]).mode.line = some tLine ∧ tLine.record.stations = 2 ∧ seen .one (log 41 e.one)
      ∧ ¬ candidate .one (log 41 e.one))
    ∧ (tStandby.mode.line = some tLine ∧ tStandby.mode.mode ≠ .run ∧ tStandby.tracker.queue = [])
    ∧ (passed.b = b .one ∧ ¬ candidate .one passed)
    ∧ (fresh .one (s many).tracker.queue ∧ 16 ≤ (s many).tracker.queue.length ∧ (s many).mode.mode = .run)
    ∧ (∀ k, let front := match k with | .one => [ahead, between] | .two => [ahead]
        let back := match k with | .one => [last] | .two => [between, last]
        let t := s (front ++ back)
        fresh k t.tracker.queue ∧ t.tracker.queue.length < 16 ∧ t.tables.mark = some .a ∧ 0 ≤ tLine.counts.tolerance
        ∧ (∀ x ∈ front, travelDiff x.b (b k) ≤ 0) ∧ (∀ y ∈ back.head?, 0 < travelDiff y.b (b k))
        ∧ (t.tracker.queue.map LogRecord.id).Nodup ∧ (∀ x ∈ t.tracker.queue, x.id < t.tracker.nextId))
    ∧ ((∀ x ∈ [twin], ¬ candidate .one x) ∧ candidate .one unmarked ∧ ([twin, unmarked].map LogRecord.id).Nodup
      ∧ ¬ (∀ p ∈ [twin].getLast?, 0 < travelDiff (b .one) p.b))
    ∧ ((∀ x ∈ [ahead, between], ¬ candidate .one x)
      ∧ (∀ p ∈ [ahead, between].getLast?, 0 < travelDiff (b .one) p.b)
      ∧ (∀ y ∈ [last].head?, 0 < travelDiff y.b (b .one)) ∧ ([ahead, between, unmarked, last].map LogRecord.id).Nodup
      ∧ -8388608 ≤ e.one ∧ e.one ≤ 8388607 ∧ e.one < tLine.counts.contact.one ∧ unmarked.at1.contact = .short
      ∧ unmarked.at1.lostPending = false ∧ unmarked.at2.lostPending = false
      ∧ unmarked.at2.standsAt tLine.counts .two unmarked.length e.one ∧ unmarked.unlimited tLine e.one) := by
  refine ⟨by decide, by decide, by decide, by decide, by decide, by decide +kernel, ?_, by decide, ?_⟩
  · intro k; cases k <;> decide +kernel
  · refine ⟨by decide, by decide, by decide, by decide, by decide, by decide, by decide, by decide, by decide, by decide, ?_, ?_⟩
    · exact (Standing.standsAt_iff (by decide)).2 (by decide)
    · exact LogRecord.unlimited_of_length rfl

/-- Falling edges: of an eye OK with nothing to measure and on no line; of a record one count short of 1000 mm, and at
1000 mm, behind one that is not measured; of an eye in FAULT. -/
theorem witness_EyeEdgesMarkLogs_falling :
    let log := tAt tLine 0#24
    let s := fun (f : Bool) (q : List LogRecord) => tMeets tLine q .idle .idle (tDark f)
    let unmeasured := fun x : LogRecord => x.at1.confirmed ≠ .no ∧ x.at1.measured = false ∧ x.at1.tracked = true
    let least := roundDiv (1000 * 1000) tLine.record.pitch
    let n := fun r : LogRecord => travelDiff 0#24 r.b - tLine.counts.eye.one
    let short := log 41 (tLine.counts.eye.one + 1999)
    let long : LogLength := { counts := 2000, mm := 1000 }
    let r := log 41 (tLine.counts.eye.one + 2000)
    let measured := { log 42 1000 with at1 := { (log 42 1000).at1 with measured := true } }
    let u := s false ([log 40 40000] ++ r :: [measured])
    let none_ := { State.reset with inputs := { State.reset.inputs with eyes := { one := tDark false, two := tDark true } } }
    ((s false []).inputs.eyes.one = tDark false ∧ (s false []).tracker.queue = [])
    ∧ (none_.mode.line = none ∧ none_.inputs.eyes.one = tDark false ∧ none_.inputs.eyes.two = tDark true)
    ∧ (unmeasured short ∧ n short = least - 1 ∧ ¬ unmeasured measured)
    ∧ (u.tracker.queue = [log 40 40000] ++ r :: [measured] ∧ (u.tracker.queue.map LogRecord.id).Nodup ∧ unmeasured r
      ∧ n r = least ∧ r.at1.lostPending = false ∧ r.at2.lostPending = false ∧ least ≤ tLine.counts.maxLength
      ∧ long = { counts := min (n r) tLine.counts.maxLength, mm := roundDiv (n r * tLine.record.pitch) 1000 }
      ∧ ∀ j, (r.at j).standsAt tLine.counts j (some long) (travelDiff 0#24 r.b))
    ∧ (s true []).inputs.eyes.one = tDark true := by
  refine ⟨by decide, by decide, by decide, ⟨by decide, by decide, by decide, by decide, by decide, by decide, by decide,
    by decide, ?_⟩, by decide⟩
  intro j
  exact (Standing.standsAt_iff (by decide)).2 (by cases j <;> decide)

/-- Butt at contact 1 between two other logs; its tail there with a joined successor; a one-station line's last tail
in FINISHING; a back-out of a log older than the one held; the window of eye 2 closing dark, faulted and clear. -/
theorem witness_RecordsMeetTheStation :
    let log := tAt tLine 1#24
    let butt := { log 41 24000 with at1 := { (log 41 24000).at1 with contact := .short } }
    let tail := { log 41 34400 with at1 := { (log 41 34400).at1 with contact := .on } }
    let last := { tAt tLine1 1#24 41 34400 with at1 := { (tAt tLine1 1#24 41 34400).at1 with contact := .on } }
    let out := { tAt tLine tBack 41 23999 with at1 := { (tAt tLine tBack 41 23999).at1 with contact := .on } }
    let close := { log 41 41501 with at2 := { (log 41 41501).at2 with confirmed := .no, window := .within } }
    let pend := { tail with at2 := { tail.at2 with lostPending := true } }
    let behind := fun (t : Travel) (pos : Int) => [{ tAt tLine t 42 pos with joined := true }]
    let ahead := [log 40 35000]
    let b := tMeets tLine (ahead ++ butt :: behind 1#24 13000) .idle .idle tClear
    let t := tMeets tLine ([] ++ tail :: behind 1#24 23900) (.engaged 41) .lockout tClear
    let f := tMode .finishing (tMeets tLine1 ([] ++ last :: []) (.engaged 41) .idle tClear)
    let o := tMeets tLine ([] ++ out :: behind tBack 13500) (.engaged 42) .idle tClear
    let c := tMeets tLine ([] ++ close :: []) .idle .idle
    let p := tMeets tLine ([] ++ pend :: []) (.engaged 41) .idle tClear
    (tMoves b 1#24 butt butt ahead (behind 1#24 13000) (behind 1#24 13000) tLine .one ∧ butt.at1.confirmed ≠ .no
      ∧ butt.at1.tracked = true ∧ butt.at2.lostPending = false ∧ butt.at1.contact = .short
      ∧ travelDiff 1#24 butt.b = tLine.counts.contact.one ∧ b.arms.stations.one = .idle
      ∧ b.inputs.rotors.one.under = false)
    ∧ (tMoves t 1#24 tail tail [] (behind 1#24 23900) (behind 1#24 23900) tLine .one ∧ tail.at1.contact = .on
      ∧ tail.at1.confirmed ≠ .no ∧ tail.at1.tracked = true
      ∧ travelDiff 1#24 tail.b = tLine.counts.contact.one + 10400 ∧ tLine.record.stations = 2
      ∧ (∀ y ∈ behind 1#24 23900, y.joined = true ∧ y.at1.confirmed ≠ .no ∧ y.at1.tracked = true))
    ∧ (tMoves f 1#24 last last [] [] [] tLine1 .one ∧ tLine1.record.stations ≠ 2 ∧ last.at1.contact = .on
      ∧ f.mode.mode = .finishing)
    ∧ (tMoves o tBack out out [] (behind tBack 13500) (behind tBack 13500) tLine .one ∧ out.at1.contact ≠ .short
      ∧ travelDiff tBack out.b < tLine.counts.contact.one ∧ (∃ z ∈ behind tBack 13500, o.arms.stations.one = .engaged z.id))
    ∧ ((∀ e ∈ [tClear, tDark false, tDark true], tMoves (c e) 1#24 close close [] [] [] tLine .two)
      ∧ close.at2.confirmed = .no ∧ close.at2.window ≠ .past ∧ close.at2.contact = .short ∧ close.at2.tracked = true
      ∧ travelDiff 1#24 close.b = tLine.counts.eye.two + tLine.counts.tolerance + 1
      ∧ travelDiff 1#24 close.b < tLine.counts.contact.two)
    ∧ (tMoves p 1#24 pend pend [] [] [] tLine .one ∧ pend.at2.lostPending = true ∧ pend.at1.contact = .on
      ∧ p.arms.stations.one = .engaged 41 ∧ p.arms.stations.two ≠ .engaged 41) := by
  refine ⟨⟨moves_of_checks (by decide +kernel), by decide +kernel⟩, ⟨moves_of_checks (by decide +kernel), by decide +kernel⟩,
    ⟨moves_of_checks (by decide +kernel), by decide +kernel⟩, ⟨moves_of_checks (by decide +kernel), by decide +kernel⟩,
    ⟨?_, by decide +kernel⟩, ⟨moves_of_checks (by decide +kernel), by decide +kernel⟩⟩
  intro e he
  simp only [List.mem_cons, List.not_mem_nil, or_false] at he
  obtain rfl | rfl | rfl := he <;> exact moves_of_checks (by decide +kernel)

/-- A record of unknown length at the limit of station 1 (R70): it takes the longest, and its tail falls due. -/
theorem witness_RecordsMeetTheStation_limit :
    let r := { tAt tLine 1#24 41 40000 with
      length := none, at1 := { (tAt tLine 1#24 41 40000).at1 with contact := .on } }
    let longest : LogLength := { counts := 16000, mm := 8000 }
    let r0 := { r with length := some longest }
    let behind := [tAt tLine 1#24 42 25000]
    let after := rejoinedNext tLine.counts.minGap (some r0) behind
    let s := tMeets tLine ([] ++ r :: behind) (.engaged 41) .idle tClear
    tMoves s 1#24 r r0 [] behind after tLine .one ∧ r0.at1.contact = .on
      ∧ travelDiff 1#24 r.b = tLine.counts.contact.one + longest.counts ∧ (∀ y ∈ after, y.joined = true) := by
  refine ⟨⟨by decide +kernel, rfl, by decide, by decide +kernel, by decide +kernel, by decide +kernel, rfl,
    by decide +kernel, by decide, by decide, ?_, ?_, ?_,
    fun _ => ⟨by decide +kernel, rfl⟩, fun h => absurd ⟨rfl, .one, Or.inl rfl, rfl, by decide +kernel⟩ h⟩, by decide +kernel⟩
  · intro y hy
    obtain rfl : y = tAt tLine 1#24 42 25000 := by simpa using hy
    exact still_of_check (by decide) (by decide +kernel)
  · intro j
    show ¬ Eye.blockedAt (some tLine) _ _
    rw [Eye.blockedAt_iff]
    cases j <;> decide +kernel
  · intro _
    rw [Standing.standsAt_iff (by decide)]
    decide +kernel

/-! ## Witnesses: the arm cycle -/

/-- A start due with forwarding idle, in an exchange, and one that is not the next. -/
theorem witness_CycleStartComposesAndSyncs :
    (tStandby.mode.line = some tLine ∧ tStandby.cycle.nextDue = some 5000 ∧ tStandby.cycle.phase = .window .idle
      ∧ tStandby.portD.tx = none)
    ∧ ((tPhase .sync tStandby).cycle.phase ≠ .halted ∧ (tPhase .sync tStandby).cycle.phase ≠ .window .idle
      ∧ (tPhase .sync tStandby).cycle.phase ≠ .window .closed)
    ∧ tStandby.cycle.nextDue ≠ some 4999 ∧ State.reset.cycle.nextDue ≠ some 0 := by decide

/-- Each way a report is missing: no START, the limit, the gap, a byte that aborts, a frame of another kind, from
another node or to another address, a report of another length, number or position. -/
theorem witness_MissingReportIsCounted :
    let s := fun begun => tWait (.report .two) begun tStandby
    let gap := tRxD .header false [] (s true)
    let wrong := fun p : List Byte => p.length ≠ 17 ∨ rd16 p 0 ≠ (s true).cycle.number
      ∨ ∃ i, i < 5 ∧ rd8 p (4 + 3 * i) % 4 = 3
    (s false).mode.line = some tLine ∧ (s false).cycle.wait = some { released := 100, begun := false }
    ∧ (s false).cycle.phase = .report .two ∧ (s false).cycle.nodes.get .two = { missing := 0, silent := false }
    ∧ (s true).cycle.wait = some { released := 100, begun := true } ∧ gap.portD.rx.phase ≠ .hunt
    ∧ gap.portD.tx = none ∧ (∃ r x, gap.portD.rx.spoils gap.now 0xB8#8 r x)
    ∧ BitVec.ofNat 8 tLine.record.node2 = 22#8
    ∧ (tFrame 12#8 22#8 0x31#8 17).kind ≠ 0x32#8 ∧ (tFrame 12#8 21#8 0x32#8 17).src ≠ 22#8
    ∧ (tFrame 255#8 22#8 0x32#8 17).dest ≠ (s true).switch.ownAddr
    ∧ wrong (tReport 0).tail ∧ wrong (be16 1 ++ (tReport 0).drop 2) ∧ wrong (tReport 3) := by
  exact ⟨by decide, by decide, by decide, by decide, by decide, by decide, by decide,
    ⟨_, _, by decide, .inr (.inl ⟨.inl rfl, rfl, rfl⟩)⟩, by decide, by decide, by decide, by decide, by decide +kernel,
    by decide +kernel, by decide +kernel⟩

/-- The last bytes of node 1's report of cycle 1 while the cycle is 0, and of a frame of another kind. -/
theorem witness_MissingReportIsCounted_bytes :
    let rx := fun (kind : Byte) (p : List Byte) => ({ phase := .body 12#8 21#8 kind (BitVec.ofNat 8 p.length)
                                                      escPending := false, gathered := p ++ (crcBytes p).take 1
                                                      gapFrom := 0 } : Receiver)
    let late := be16 1 ++ (tReport 0).drop 2
    rd16 late 0 ≠ (tWait (.report .one) true tStandby).cycle.number ∧ BitVec.ofNat 8 tLine.record.node1 = 21#8
    ∧ (rx 0x32#8 late).completes ((crcBytes late).getD 1 0#8) (Frame.mk 12#8 21#8 0x32#8 late)
    ∧ (rx 0x21#8 []).completes 0xFF#8 (tFrame 12#8 21#8 0x21#8 0) ∧ (tFrame 12#8 21#8 0x21#8 0).kind ≠ 0x32#8 :=
  ⟨by decide, by decide,
    ⟨(crcBytes (be16 1 ++ (tReport 0).drop 2)).getD 1 0#8, 17#8, rfl, by decide +kernel, .inl (by decide +kernel),
      by decide +kernel, by decide +kernel⟩,
    ⟨0xFF#8, 0#8, rfl, by decide +kernel, .inl (by decide), by decide +kernel, by decide +kernel⟩, by decide⟩

/-- R151: node 1's report with a byte more, or from node 2, completed byte by byte: D_FRAMES_OK, UNSOLICITED for the
second alone, and REPORTS_MISSING_1. -/
theorem test_failed_reports_by_bytes :
    let s := { tWait (.report .one) false tStandby with now := 0 }
    let after := fun f : Frame => match execAll ((wire f).map (Instr.receiveByte .d)) s with
      | .next t => some (t.requests.counters.dFramesOk, t.requests.counters.unsolicited, t.requests.counters.reportsMissing1)
      | .fault _ => none
      | .refused _ => none
    after (tFrame 12#8 21#8 0x32#8 1) = some (1, 0, 1) ∧ after (tFrame 12#8 22#8 0x32#8 1) = some (1, 1, 1) := by
  decide +kernel

/-- Entry 5 of a good report with the valve-fault flag alone. -/
theorem witness_ValveFaultIsolatesChannel :
    let s := tWait (.report .one) true tStandby
    s.mode.line = some tLine ∧ s.cycle.wait = some { released := 100, begun := true } ∧ s.cycle.phase = .report .one
    ∧ (tReport 128).length = 17 ∧ rd16 (tReport 128) 0 = s.cycle.number
    ∧ (∀ j, j < 5 → rd8 (tReport 128) (4 + 3 * j) % 4 ≠ 3)
    ∧ 4 < 5 ∧ (s.arms.channels.get .one)[4]? = some tChannel ∧ tChannel.state = .ready
    ∧ 128 ≤ rd8 (tReport 128) (4 + 3 * 4) := by decide +kernel

/-- Station 1 ENGAGED and channel 1 READY, compared against setpoints 250 (at the tolerance) and 251 (above it),
with deviation counts 0 and 2 under a limit of 3; and with three CLOSE compositions, not compared. -/
theorem witness_GoodReportSupervisesChannels :
    let c := fun (previous closed count : Nat) =>
      { tChannel with previous := previous, closedCycles := closed, deviations := count }
    let s := fun d : Channel => tWait (.report .one) true (tStations (.engaged 41) .idle
      { tLogged with arms := { tLogged.arms with channels := { tLogged.arms.channels with
          one := d :: List.replicate 4 tChannel } } })
    let above := fun d : Channel => tLine.record.deviation < ((rd16 (tReport 2) (2 + 3 * 0) : Int) - d.previous).natAbs
    ((s (c 250 4 0)).mode.line = some tLine ∧ (s (c 250 4 0)).cycle.wait = some { released := 100, begun := true }
      ∧ (s (c 250 4 0)).cycle.phase = .report .one ∧ (s (c 250 4 0)).cycle.deferred = false)
    ∧ (tReport 2).length = 17 ∧ rd16 (tReport 2) 0 = (s (c 250 4 0)).cycle.number
    ∧ (∀ j, j < 5 → rd8 (tReport 2) (4 + 3 * j) % 4 ≠ 3) ∧ rd8 (tReport 2) 4 < 128
    ∧ ((s (c 250 4 0)).arms.channels.get .one)[0]? = some (c 250 4 0)
    ∧ Channel.reset.state ≠ .ready ∧ (c 250 4 0).state = .ready ∧ ¬ 4 ≤ (c 250 3 0).closedCycles
    ∧ ((s (c 250 4 0)).arms.stations.get .one = .engaged 41 ∧ ((s (c 250 4 0)).cycle.nodes.get .one).silent = false
      ∧ 4 ≤ (c 250 4 0).closedCycles)
    ∧ ¬ above (c 250 4 0) ∧ above (c 251 4 0) ∧ (c 251 4 1).deviations + 1 < tLine.record.deviationLimit
    ∧ tLine.record.deviationLimit ≤ (c 251 4 2).deviations + 1
    ∧ (s (c 250 4 0)).portD.tx = none := by decide +kernel

/-- The last byte of node 1's good report, and the last byte of a bad one; a START, an IDLE and a byte after an ESC that
end a frame; and a header that fails its check. -/
theorem witness_bytes_that_end_a_frame :
    let f : Frame := { dest := 12#8, src := 21#8, kind := 0x32#8, payload := tReport 2 }
    let last := (crcBytes f.payload).getD 1 0#8
    let body := fun p : List Byte => ({ phase := .body 12#8 21#8 0x32#8 17#8, escPending := false
                                        gathered := p ++ (crcBytes f.payload).take 1, gapFrom := 0 } : Receiver)
    let header := fun esc : Bool =>
      ({ phase := .header, escPending := esc, gathered := [12#8, 21#8, 0x32#8, 17#8], gapFrom := 0 } : Receiver)
    let hec := hecByte 12#8 21#8 0x32#8 17#8 ^^^ 0x03#8
    (body f.payload).completes last f
    ∧ (body (tReport 1)).spoils 0 last (body (tReport 1)).hunted .crcFailed
    ∧ (header false).spoils 0 0xB6#8
        { phase := .header, escPending := false, gathered := [], gapFrom := 0 } .framesAborted
    ∧ (header false).spoils 0 0xB8#8 (header false).hunted .framesAborted
    ∧ (header true).spoils 0 0x95#8 (header true).hunted .framesAborted
    ∧ (header false).spoils 0 hec (header false).hunted .hecFailed := by
  intro f last body header hec
  refine ⟨⟨last, 17#8, rfl, by decide +kernel, .inl (by decide +kernel), by decide +kernel, by decide +kernel⟩,
    ⟨by decide, .inr (.inr (.inr ⟨last, 12#8, 21#8, 0x32#8, 17#8, rfl, by decide +kernel, .inl (by decide +kernel),
      by decide +kernel, rfl, rfl⟩))⟩,
    ⟨by decide, .inl ⟨rfl, rfl, rfl⟩⟩, ⟨by decide, .inr (.inl ⟨.inl rfl, rfl, rfl⟩)⟩,
    ⟨by decide, .inr (.inl ⟨.inr (by decide), rfl, rfl⟩)⟩,
    ⟨by decide, .inr (.inr (.inl ⟨hec, 12#8, 21#8, 0x32#8, 17#8, rfl, rfl, .inl (by decide +kernel),
      by decide +kernel, rfl, rfl⟩))⟩⟩

/-- Node 1's wait on the line of two stations and the last wait, at the timeout and at the limit: with an empty queue,
with a head whose need is the very time left and one µs more, at the first and at the third miss, alone and with another
behind it. -/
theorem witness_WaitsEndInTheServiceWindow :
    let w := fun begun : Bool => { released := 100, begun := begun : Wait }
    let e : DownEntry := { frame := tFrame 30#8 1#8 0x40#8 0, awaited := true }
    let e' : DownEntry := { frame := tFrame 30#8 1#8 0x60#8 0, awaited := false }
    let s := fun (begun : Bool) (k : Station) (down : List DownEntry) (miss due : Nat) =>
      { tWait (.report k) begun tStandby with
        switch := { tStandby.switch with down := down }
        cycle := { (tWait (.report k) begun tStandby).cycle with
          composed := some tCommands, headMiss := miss, nextDue := some due } }
    let need := fun e : DownEntry => 5 * (wire e.frame).length + (if e.awaited then tLine.record.reportTimeout else 0)
    let later := max tStandby.now (100 + tLine.record.reportTimeout)
    (∀ k begun, (s begun k [] 0 0).mode.line = some tLine ∧ (s begun k [] 0 0).cycle.wait = some (w begun)
      ∧ (s begun k [] 0 0).cycle.phase = .report k ∧ (s begun k [] 0 0).portD.tx = none)
    ∧ tLine.record.stations = 2 ∧ (s false .one [] 0 0).cycle.composed = some tCommands
    ∧ (s false .two [] 0 0).switch.down = []
    ∧ ((s false .two [e] 0 0).switch.down = e :: [] ∧ (s false .two [e] 0 (later + need e)).cycle.nextDue = some (later + need e))
    ∧ need e ≤ later + need e - later ∧ later + (need e - 1) - later < need e
    ∧ (s false .two [e] 1 0).cycle.headMiss < 2 ∧ 2 ≤ (s false .two [e] 2 0).cycle.headMiss
    ∧ (s false .two [e, e'] 2 0).switch.down = e :: [e'] ∧ need e' < need e
    ∧ (need e' ≤ later + need e' - later ∧ later + need e' - later < need e)
    ∧ later + (need e' - 1) - later < need e' := by
  refine ⟨fun k b => by cases k <;> cases b <;> decide, ?_⟩
  decide +kernel

/-- A reply wait for station 30, with room upstream and without; with a head whose need is the very time left after the
wait, and one µs more; with a frame in reception that its last byte makes good, or that a START or the gap aborts; and no
wait. -/
theorem witness_ReplyWaitsAndUnawaitedFrames :
    let s := fun begun => tWait (.window (.replyWait 30#8)) begun tStandby
    let f := tFrame 1#8 30#8 0x21#8 0
    let up := List.replicate 256 f
    let e : DownEntry := { frame := tFrame 30#8 1#8 0x40#8 0, awaited := true }
    let need := 5 * (wire e.frame).length + tLine.record.reportTimeout
    let headed := fun due : Nat => { s false with
      switch := { tStandby.switch with down := [e] }, cycle := { (s false).cycle with nextDue := some due } }
    let rx := fun body : Bool => if body then tRxD (.body 1#8 30#8 0x21#8 0#8) false [0xFF#8] (s true)
      else tRxD .header false [] (s true)
    (s false).mode.line = some tLine ∧ (s false).cycle.wait = some { released := 100, begun := false }
    ∧ (s true).cycle.wait = some { released := 100, begun := true } ∧ (s false).portD.tx = none
    ∧ (s false).cycle.phase = .window (.replyWait 30#8)
    ∧ (s false).switch.down = [] ∧ f.src = 30#8 ∧ (tFrame 1#8 31#8 0x21#8 0).src ≠ 30#8
    ∧ (((s true).switch.up.map (fun g => 4 + g.payload.length)).sum + (4 + f.payload.length) ≤ 1024)
    ∧ ¬ ((up.map (fun g => 4 + g.payload.length)).sum + (4 + f.payload.length) ≤ 1024)
    ∧ ((headed need).switch.down = e :: [] ∧ (headed need).cycle.nextDue = some need ∧ need ≤ need - (headed need).now
      ∧ need - 1 - (headed need).now < need)
    ∧ ((rx false).portD.rx.phase ≠ .hunt ∧ (rx false).portD.tx = none
      ∧ (rx false).cycle.wait = some { released := 100, begun := true } ∧ (rx true).portD.rx.completes 0xFF#8 f
      ∧ (rx false).portD.rx.spoils 0 0xB6#8
          { phase := .header, escPending := false, gathered := [], gapFrom := 0 } .framesAborted)
    ∧ tStandby.cycle.wait = none := by
  intro s f up e need headed rx
  exact ⟨by decide, by decide, by decide, by decide, by decide, by decide, by decide, by decide, by decide +kernel,
    by decide +kernel, by decide +kernel,
    ⟨by decide, by decide, by decide, ⟨0xFF#8, 0#8, rfl, rfl, .inl (by decide), rfl, by decide +kernel⟩,
      ⟨by decide, .inl ⟨rfl, rfl, rfl⟩⟩⟩, by decide⟩

end Sys2Proof.Machine
end

section
/-! PROOFS. The header error check (R5): the folds of the HEC byte as parities of ones, the codeword as its six check
positions and its 32 header positions, and the claim about the HEC byte assembled from them. -/

namespace Sys2Proof.Machine

/-! ## Folds by exclusive or are parities of ones -/

/-- The parity of a sum is the exclusive or of the parities. -/
theorem odd_add_eq_xor (m n : Nat) :
    decide ((m + n) % 2 = 1) = (decide (m % 2 = 1) ^^ decide (n % 2 = 1)) := by
  rcases Nat.mod_two_eq_zero_or_one m with hm | hm <;> rcases Nat.mod_two_eq_zero_or_one n with hn | hn <;>
    simp [Nat.add_mod, hm, hn]

/-- Folding by exclusive or counts the ones modulo 2. -/
theorem foldl_xor_eq_parity {α : Type} (f : α → Bool) (l : List α) (a : Bool) :
    l.foldl (fun b x => b ^^ f x) a = (a ^^ decide (l.countP f % 2 = 1)) := by
  induction l generalizing a with
  | nil => simp
  | cons x l ih =>
    rw [List.foldl_cons, ih, List.countP_cons, odd_add_eq_xor]
    cases f x <;> simp

/-- A bit of chosen numbers folded by exclusive or is the fold of that bit. -/
theorem testBit_foldl_xor {α : Type} (chosen : α → Bool) (v : α → Nat) (i : Nat) (l : List α) (a : Nat) :
    (l.foldl (fun b x => if chosen x then b ^^^ v x else b) a).testBit i
      = l.foldl (fun b x => b ^^ ((v x).testBit i && chosen x)) (a.testBit i) := by
  induction l generalizing a with
  | nil => rfl
  | cons x l ih => rw [List.foldl_cons, List.foldl_cons, ih]; cases chosen x <;> simp

/-- The parity of a number's first n bits, as a count. -/
theorem oddOnes_eq (n x : Nat) : oddOnes n x = decide ((List.range n).countP x.testBit % 2 = 1) := by
  rw [oddOnes, foldl_xor_eq_parity, Bool.false_xor]

/-- Bit i of the position sum is the parity of the ones at header positions with bit i set (R5). -/
theorem testBit_positionSum (h : BitVec 32) (i : Nat) :
    (positionSum h).testBit i
      = decide (headerPositions.zipIdx.countP (fun q => q.1.testBit i && h.getLsbD q.2) % 2 = 1) := by
  rw [positionSum, testBit_foldl_xor, foldl_xor_eq_parity, Nat.zero_testBit, Bool.false_xor]

/-- Every header position is below 64, and so is their exclusive or. -/
theorem positionSum_lt (h : BitVec 32) : positionSum h < 64 := by
  refine Nat.lt_pow_two_of_testBit (n := 6) _ fun i hi => ?_
  have small : ∀ q ∈ headerPositions.zipIdx, q.1 < 2 ^ 6 := by decide
  have none_set : headerPositions.zipIdx.countP (fun q => q.1.testBit i && h.getLsbD q.2) = 0 := by
    refine List.countP_eq_zero.2 fun q hq => ?_
    simp [Nat.testBit_lt_two_pow ((small q hq).trans_le (Nat.pow_le_pow_right (by decide) hi))]
  rw [testBit_positionSum, none_set]; rfl

/-! ## The bits of the HEC byte -/

/-- Six bits with a seventh above them, as a byte. -/
theorem getLsbD_sixBits_with_top {c : Nat} (hc : c < 64) (p : Bool) (j : Nat) :
    (BitVec.ofNat 8 (c + if p then 64 else 0)).getLsbD j = if j < 6 then c.testBit j else decide (j = 6) && p := by
  have pack : (c + if p then 64 else 0) = 2 ^ 6 * p.toNat + c := by cases p <;> simp [Nat.add_comm]
  rw [pack, BitVec.getLsbD_ofNat, Nat.testBit_two_pow_mul_add _ hc]
  by_cases low : j < 6
  · simp [low, show j < 8 by omega]
  · have top : decide (j = 6) = (decide (j < 8) && decide (j - 6 = 0)) := by
      rw [← Bool.decide_and, decide_eq_decide]; omega
    rw [if_neg low, if_neg low, Nat.testBit_bool_toNat, top]
    cases p <;> simp

/-- The HEC byte's bits: those of the position sum below bit 6, then P, then 0 (R5). -/
theorem getLsbD_hecByte (dest src kind len : Byte) (j : Nat) :
    (hecByte dest src kind len).getLsbD j =
      if j < 6 then (positionSum (headerBits dest src kind len)).testBit j
      else decide (j = 6) && (oddOnes 32 (headerBits dest src kind len).toNat
        ^^ oddOnes 6 (positionSum (headerBits dest src kind len))) :=
  getLsbD_sixBits_with_top (positionSum_lt _) _ j

/-! ## The codeword: check positions and header positions -/

/-- The check position 2^j holds bit j of the HEC byte (R5). -/
theorem codewordBit_check (h : BitVec 32) (hec : Byte) {j : Nat} (hj : j < 6) :
    codewordBit h hec (2 ^ j) = hec.getLsbD j := by
  have found : ∀ j < 6, checkIndex? (2 ^ j) = some j := by decide
  simp [codewordBit, found j hj]

/-- A header position holds the header bit it is listed with (R5, section 10.1). -/
theorem codewordBit_header (h : BitVec 32) (hec : Byte) {q : Nat × Nat} (hq : q ∈ headerPositions.zipIdx) :
    codewordBit h hec q.1 = h.getLsbD q.2 := by
  have found : ∀ q ∈ headerPositions.zipIdx,
      checkIndex? q.1 = none ∧ headerPositions.findIdx? (fun p => p == q.1) = some q.2 := by decide
  obtain ⟨noCheck, atIndex⟩ := found q hq
  simp [codewordBit, noCheck, atIndex]

/-- Ones of a codeword among chosen positions: those at check positions and those at header positions. -/
theorem countP_codewordBit (h : BitVec 32) (hec : Byte) (chosen : Nat → Bool) :
    (List.range' 1 38).countP (fun p => chosen p && codewordBit h hec p)
      = (List.range 6).countP (fun j => chosen (2 ^ j) && hec.getLsbD j)
        + headerPositions.zipIdx.countP (fun q => chosen q.1 && h.getLsbD q.2) := by
  have positions : (List.range' 1 38).Perm
      ((List.range 6).map (2 ^ ·) ++ headerPositions.zipIdx.map Prod.fst) := by decide
  rw [positions.countP_eq, List.countP_append, List.countP_map, List.countP_map]
  exact congrArg₂ (· + ·)
    (List.countP_congr fun j hj => by simp [codewordBit_check h hec (List.mem_range.1 hj)])
    (List.countP_congr fun q hq => by simp [codewordBit_header h hec hq])

/-- The header bits are the four bytes, destination lowest (R5). -/
theorem getLsbD_headerBits (dest src kind len : Byte) {k j : Nat} (hk : k < 4) (hj : j < 8) :
    (headerBits dest src kind len).getLsbD (8 * k + j) = ([dest, src, kind, len].getD k 0#8).getLsbD j := by
  rw [headerBits, BitVec.getLsbD_append, BitVec.getLsbD_append, BitVec.getLsbD_append]
  interval_cases k
  · simp [hj]
  · simp [hj]
  · rw [if_neg (by omega), if_neg (by omega), if_pos (by omega)]; simp [show 8 * 2 + j - 8 - 8 = j by omega]
  · rw [if_neg (by omega), if_neg (by omega), if_neg (by omega)]; simp [show 8 * 3 + j - 8 - 8 - 8 = j by omega]

/-- The header positions numbered 8k to 8k + 7 hold header byte k, bit 0 first (R5, section 10.1). -/
theorem map_codewordBit_octet (dest src kind len hec : Byte) {k : Nat} (hk : k < 4) :
    ((List.range 8).map (fun j => headerPositions.getD (8 * k + j) 0)).map
        (codewordBit (headerBits dest src kind len) hec)
      = (List.range 8).map (fun j => ([dest, src, kind, len].getD k 0#8).getLsbD j) := by
  have listed : ∀ i < 32, (headerPositions.getD i 0, i) ∈ headerPositions.zipIdx := by decide
  rw [List.map_map]
  refine List.map_congr_left fun j hj => ?_
  have hj : j < 8 := List.mem_range.1 hj
  exact (codewordBit_header _ hec (listed (8 * k + j) (by omega))).trans (getLsbD_headerBits dest src kind len hk hj)

/-! ## Parity of the sent codeword -/

/-- A count with its own parity bit added is even. -/
theorem add_parityBit_even (n : Nat) : (n + if n % 2 = 1 then 1 else 0) % 2 = 0 := by
  split <;> omega

/-- Only the check bit's own position is a check position with bit i set. -/
theorem countP_checkPositions (b : Nat → Bool) {i : Nat} (hi : i < 6) :
    (List.range 6).countP (fun j => (2 ^ j).testBit i && b j) = if b i then 1 else 0 := by
  have own : ∀ j, ((2 ^ j).testBit i && b j) = (b i && j == i) := by
    intro j
    rw [Nat.testBit_two_pow]
    by_cases hj : j = i <;> simp [hj]
  simp only [own]
  cases b i
  · simp
  · simp only [Bool.true_and]
    exact List.count_eq_one_of_mem List.nodup_range (List.mem_range.2 hi)

/-- Each check bit makes its positions even (R5). -/
theorem sent_checkGroup_even (dest src kind len : Byte) {i : Nat} (hi : i < 6) :
    (List.range' 1 38).countP (fun p => p.testBit i
      && codewordBit (headerBits dest src kind len) (hecByte dest src kind len) p) % 2 = 0 := by
  rw [countP_codewordBit, countP_checkPositions _ hi, getLsbD_hecByte, if_pos hi, testBit_positionSum, Nat.add_comm]
  simpa using add_parityBit_even _

/-- P makes all 38 positions and itself even (R5). -/
theorem sent_whole_even (dest src kind len : Byte) :
    ((List.range' 1 38).countP (codewordBit (headerBits dest src kind len) (hecByte dest src kind len))
      + if (hecByte dest src kind len).getLsbD 6 then 1 else 0) % 2 = 0 := by
  set h := headerBits dest src kind len with hh
  set hec := hecByte dest src kind len with hhec
  have checks : (List.range 6).countP hec.getLsbD = (List.range 6).countP (positionSum h).testBit :=
    List.countP_congr fun j hj => by rw [hhec, getLsbD_hecByte, if_pos (List.mem_range.1 hj)]
  have headers : headerPositions.zipIdx.countP (fun q => h.getLsbD q.2) = (List.range 32).countP h.toNat.testBit := by
    have indices : List.range 32 = headerPositions.zipIdx.map Prod.snd := by decide
    rw [indices, List.countP_map]
    exact List.countP_congr fun q _ => by simp [BitVec.testBit_toNat]
  have ones : (List.range' 1 38).countP (codewordBit h hec)
      = (List.range 6).countP (positionSum h).testBit + (List.range 32).countP h.toNat.testBit := by
    simpa [checks, headers] using countP_codewordBit h hec (fun _ => true)
  have parityBit : hec.getLsbD 6 = decide (((List.range 6).countP (positionSum h).testBit
      + (List.range 32).countP h.toNat.testBit) % 2 = 1) := by
    rw [hhec, getLsbD_hecByte, odd_add_eq_xor, ← oddOnes_eq, ← oddOnes_eq, Bool.xor_comm]
    rfl
  rw [ones, parityBit]
  simpa using add_parityBit_even _

/-- Settles O11, from the parity lemmas of the sent codeword and the layout of its positions. -/
theorem hecByteIsEvenParity : Obligations.HecByteIsEvenParity := by
  intro dest src kind len w one
  exact ⟨fun i hi => sent_checkGroup_even dest src kind len hi,
    sent_whole_even dest src kind len,
    getLsbD_hecByte dest src kind len 7,
    List.map_congr_left (l := List.range 6) (f := fun j => one (2 ^ j))
      fun j hj => codewordBit_check w.header w.hec (List.mem_range.1 hj),
    map_codewordBit_octet dest src kind len w.hec (k := 0) (by decide),
    map_codewordBit_octet dest src kind len w.hec (k := 1) (by decide),
    map_codewordBit_octet dest src kind len w.hec (k := 2) (by decide),
    map_codewordBit_octet dest src kind len w.hec (k := 3) (by decide)⟩

end Sys2Proof.Machine
end

section
/-! PROOFS. MODE_SET CLEAR in TRIPPED (R18): a request answered with a slot free, the lines of R18 as equations of the
Mode Control's operation, and the claim assembled from them. -/

namespace Sys2Proof.Machine

/-! ## A request answered -/

/-- With a slot free a request leaves the state its block leaves, with the block's answer as the reply (R165, R166). -/
theorem served_eq_answered {s : State} (h : s.slotFree) (src num code : Byte) (act : State → Answer) :
    served src num code act s
      = s.answered (act s).state src num code (act s).outcome.code (act s).outcome.detail (act s).body :=
  served_of_free (decide_eq_false (Nat.not_le.2 h)) src num code act

/-- MODE_SET CLEAR with a slot free, by the answer of Mode Control (R17, R165). -/
theorem exec_modeSetClear_of_slotFree {s : State} (h : s.slotFree) (src num : Byte) :
    exec (.modeSetClear src num) s = .next (s.answered (modeClear s).state src num 2#8
      (modeClear s).outcome.code (modeClear s).outcome.detail (modeClear s).body) :=
  congrArg Host.Outcome.next (served_eq_answered h src num 2#8 modeClear)

/-! ## The lines of R18 -/

/-- The log queue is empty in a mode in which the stations do not work (R16, R22). -/
theorem State.ModeOk.queue_eq_nil {s : State} (ok : s.ModeOk) (h : s.mode.mode.works = false) :
    s.tracker.queue = [] := by
  by_contra queued
  exact Bool.false_ne_true (h.symm.trans (ok.queued queued))

/-- CLEAR under the asserted trip input (R18). -/
theorem modeClear_of_trip {s : State} (hm : s.mode.mode = .tripped) (trip : s.inputs.trip = true) :
    modeClear s = modeAnswer s .tripAsserted := by
  simp only [modeClear, hm, trip, if_true]

/-- CLEAR with the encoder failed and an illegal transition since (R18). -/
theorem modeClear_of_disturbed {s : State} (hm : s.mode.mode = .tripped) (trip : s.inputs.trip = false)
    (failed : s.travel.failed = true) (disturbed : s.travel.disturbed = true) :
    modeClear s = modeAnswer s .encoderFailed := by
  simp [modeClear, hm, trip, failed, disturbed]

/-- CLEAR with nothing against it (R18). -/
theorem modeClear_of_clearable {s : State} (hm : s.mode.mode = .tripped) (trip : s.inputs.trip = false)
    (clearable : (s.travel.failed && s.travel.disturbed) = false) :
    modeClear s = modeAnswer (leaveTripped s) .done := by
  simp [modeClear, hm, trip, clearable]

/-- A failed encoder is OK again when TRIPPED is left, its mark and its count clear (R18, R33). -/
theorem leaveTripped_of_failed {s : State} (failed : s.travel.failed = true) :
    leaveTripped s = { s with
      mode := { s.mode with mode := .standby, cause := .none }
      travel := { s.travel with failed := false, disturbed := false, illegal := 0 } } := by
  rw [leaveTripped, if_pos failed]

/-- With the encoder OK, leaving TRIPPED concerns Mode Control alone (R18). -/
theorem leaveTripped_of_not_failed {s : State} (failed : s.travel.failed = false) :
    leaveTripped s = { s with mode := { s.mode with mode := .standby, cause := .none } } := by
  rw [leaveTripped, if_neg (Bool.eq_false_iff.1 failed)]

/-- Settles O34, line by line of R18; the queue is empty because TRIPPED is no working mode. -/
theorem modeSetClearLeavesTripped : Obligations.ModeSetClearLeavesTripped := by
  intro s src num free ok tripped
  have taken := exec_modeSetClear_of_slotFree free src num
  refine ⟨ok.queue_eq_nil (by rw [tripped]; rfl), fun trip => ?asserted, fun trip failed disturbed => ?disturbed,
    fun trip failed disturbed => ?cleared, fun trip failed => ?sound⟩
  case asserted =>
    rw [taken, modeClear_of_trip tripped trip, modeAnswer, tripped]; rfl
  case disturbed =>
    rw [taken, modeClear_of_disturbed tripped trip failed disturbed, modeAnswer, tripped]; rfl
  case cleared =>
    rw [taken, modeClear_of_clearable tripped trip (by rw [disturbed, Bool.and_false]), leaveTripped_of_failed failed]
    rfl
  case sound =>
    rw [taken, modeClear_of_clearable tripped trip (by rw [failed, Bool.false_and]), leaveTripped_of_not_failed failed]
    rfl

end Sys2Proof.Machine
end

section
/-! PROOFS. The Travel Unit and the rotors after the two resets (R37, R41): what LINE_RESET leaves in each block, the
cut of the cycle changing none of them, a rotor pulse in front of any station, and the claim assembled from them. -/

namespace Sys2Proof.Machine

/-! ## LINE_RESET, block by block -/

@[simp] theorem Pair.get_map {α β : Type} (f : α → β) (p : Pair α) (k : Station) : (p.map f).get k = f (p.get k) := by
  cases k <;> rfl

/-- The line record stays, whatever the mode becomes (R29). -/
@[simp] theorem ModeControl.lineReset_line (asserted : Bool) (m : ModeControl) :
    (m.lineReset asserted).line = m.line := by
  unfold ModeControl.lineReset
  split
  · rfl
  · split <;> rfl

/-- The cut that follows the blocks' own resets leaves what they hold alone (R29, R161, R176). -/
theorem resetBlocks_cut_cycleFrame (s : State) : CycleFrame (resetBlocks s)
    (if (resetBlocks s).mode.line.isSome then cutCycle (resetBlocks s) else resetBlocks s) := by
  split
  · exact cutCycle_cycleFrame _
  · exact CycleFrame.refl _

@[simp] theorem lineReset_now (s : State) : (lineReset s).state.now = s.now :=
  (resetBlocks_cut_cycleFrame s).now

@[simp] theorem lineReset_line (s : State) : (lineReset s).state.mode.line = s.mode.line :=
  (congrArg ModeControl.line (resetBlocks_cut_cycleFrame s).mode).trans (ModeControl.lineReset_line _ _)

@[simp] theorem lineReset_travel (s : State) : (lineReset s).state.travel = s.travel.lineReset s.now :=
  (resetBlocks_cut_cycleFrame s).travel

@[simp] theorem lineReset_inputs (s : State) : (lineReset s).state.inputs = s.inputs.lineReset :=
  (resetBlocks_cut_cycleFrame s).inputs

@[simp] theorem lineReset_tracker (s : State) : (lineReset s).state.tracker = s.tracker.lineReset :=
  (resetBlocks_cut_cycleFrame s).tracker

@[simp] theorem FieldInputs.lineReset_rotor (i : FieldInputs) (k : Station) :
    i.lineReset.rotors.get k = (i.rotors.get k).lineReset :=
  Pair.get_map _ _ _

@[simp] theorem FieldInputs.lineReset_eye (i : FieldInputs) (k : Station) :
    i.lineReset.eyes.get k = (i.eyes.get k).lineReset :=
  Pair.get_map _ _ _

/-- LINE_RESET with a slot free: the blocks as it leaves them, and its reply (R165, R176). -/
theorem exec_lineReset_of_slotFree {s : State} (h : s.slotFree) (src num : Byte) :
    exec (.lineReset src num) s = .next (s.answered (lineReset s).state src num 14#8
      (lineReset s).outcome.code (lineReset s).outcome.detail (lineReset s).body) :=
  congrArg Host.Outcome.next (served_eq_answered h src num 14#8 lineReset)

/-! ## A rotor pulse that forms a period -/

theorem underSet_logFrame (k : Station) (s : State) : LogFrame s (underSet k s) := by
  unfold underSet
  split
  · split
    · exact (setStation_armsOnly s k .lockout).logFrame.trans (releasePending_logFrame _ _ _)
    · exact (setStation_armsOnly s k .lockout).logFrame
  · exact LogFrame.refl s

theorem underChanged_logFrame (k : Station) (was : Bool) (s : State) : LogFrame s (underChanged k was s) := by
  unfold underChanged
  dsimp only
  split
  · exact underSet_logFrame k s
  · split
    · exact (examineLockout_armsOnly k s).logFrame
    · exact LogFrame.refl s

/-- What the Arm Controller does on a change of the flag leaves the rotors alone. -/
@[simp] theorem setRotor_rotors (k : Station) (r : Rotor) (s : State) :
    (setRotor k r s).inputs.rotors = s.inputs.rotors.set k r :=
  congrArg FieldInputs.rotors (underChanged_logFrame k _ _).inputs

/-- A pulse within 2000 ms of the reference forms a period (R38). -/
theorem pulseRotor_of_period {s : State} {k : Station} {t edge : Nat} (ref : (s.inputs.rotors.get k).ref = some t)
    (after : t < edge) (within : edge ≤ t + 2000000) :
    pulseRotor k edge s
      = setRotor k ((s.inputs.rotors.get k).pulsed s.mode.line t edge) (s.reach (edge + Config.pulseHold)) := by
  have live : ¬ Config.rotorSilence < edge - t := by unfold Config.rotorSilence; omega
  simp only [pulseRotor, ref, if_neg (Nat.not_le.2 after), if_neg live]

/-- The speed such a pulse yields with a line record (R39). -/
theorem pulseRotor_speed {s : State} {k : Station} {t edge : Nat} {l : Line}
    (ref : (s.inputs.rotors.get k).ref = some t) (after : t < edge) (within : edge ≤ t + 2000000)
    (line : s.mode.line = some l) :
    ((pulseRotor k edge s).inputs.rotors.get k).speed = 60000000 / ((edge - t) * l.record.pulses) := by
  rw [pulseRotor_of_period ref after within, setRotor_rotors, Pair.get_set_same, line]
  rfl

/-! ## The claim -/

/-- Settles O45: hardware reset by the reset state, LINE_RESET by its blocks, and the first pulse after it by the
reference it keeps. -/
theorem resetsRestartTravelAndRotors : Obligations.ResetsRestartTravelAndRotors := by
  intro s src num a b trip fresh
  refine ⟨⟨_, rfl, rfl, fun k => ?rotors⟩, fun free =>
    ⟨_, exec_lineReset_of_slotFree free src num, lineReset_now s, ?travel, fun k => ?kept, ?pulse, ?queue, fun k => ?eye⟩⟩
  case rotors => cases k <;> rfl
  case travel =>
    change (lineReset s).state.travel = fresh _ _ (lineReset s).state.now
    rw [lineReset_travel, lineReset_now]
    rfl
  case kept =>
    change (lineReset s).state.inputs.rotors.get k = _
    rw [lineReset_inputs, FieldInputs.lineReset_rotor]
    rfl
  case pulse =>
    intro k x edge l ref after within line
    refine ⟨_, rfl, pulseRotor_speed ?_ after within ((lineReset_line s).trans line)⟩
    change ((lineReset s).state.inputs.rotors.get k).ref = some x
    rw [lineReset_inputs, FieldInputs.lineReset_rotor]
    exact ref
  case queue => exact congrArg LogTracker.queue (lineReset_tracker s)
  case eye =>
    change ((lineReset s).state.inputs.eyes.get k).darkSince = _
    rw [lineReset_inputs, FieldInputs.lineReset_eye]
    rfl

end Sys2Proof.Machine
end

section
/-! PROOFS. TABLE_OPEN (R80 to R82, R169): the target under the active bank mark, the lines of R80 as equations of the
Table Store's two operations, the copy's answer or reserved slot, and the claim assembled from them. -/

namespace Sys2Proof.Machine

/-! ## The target (R75) -/

/-- The target is the bank the mark does not name, or bank A without a mark (R75). -/
theorem TableStore.target_eq {t : TableStore} {k : BankId} (h : t.mark = some k.other ∨ t.mark = none ∧ k = .a) :
    t.target = k := by
  obtain active | ⟨unmarked, rfl⟩ := h
  · rw [TableStore.target, active]
    exact k.other_other
  · rw [TableStore.target, unmarked]

/-! ## The lines of R80 -/

/-- A target that is COPYING refuses both forms of TABLE_OPEN with BUSY (R80). -/
theorem tableOpen_of_copying {s : State} (h : (s.tables.bank s.tables.target).state = .copying) :
    openClear s = refuse s .busy ∧ openCopy s = (s, some .busy) := by
  simp only [openClear, openCopy, h, and_self]

/-- A target that is RETIRING refuses both forms of TABLE_OPEN (R80). -/
theorem tableOpen_of_retiring {s : State} (h : (s.tables.bank s.tables.target).state = .retiring) :
    openClear s = refuse s .bankRetiring ∧ openCopy s = (s, some .bankRetiring) := by
  simp only [openClear, openCopy, h, and_self]

/-- A target in any other state is cleared and LOADING (R80, R81). -/
theorem openClear_of_open {s : State} (notCopying : (s.tables.bank s.tables.target).state ≠ .copying)
    (notRetiring : (s.tables.bank s.tables.target).state ≠ .retiring) :
    openClear s =
      { state := s.setBank s.tables.target ((s.tables.bank s.tables.target).clear .loading), outcome := .done
        body := be8 s.tables.target.code ++ be8 0 } := by
  simp only [openClear]

/-- Without an ACTIVE bank such a target is not copied to (R80). -/
theorem openCopy_of_no_mark {s : State} (notCopying : (s.tables.bank s.tables.target).state ≠ .copying)
    (notRetiring : (s.tables.bank s.tables.target).state ≠ .retiring) (unmarked : s.tables.mark = none) :
    openCopy s = (s, some .noActiveBank) := by
  simp only [openCopy, unmarked]

/-- With an ACTIVE bank such a target is cleared and COPYING from it, from the moment of the request (R80, R82). -/
theorem openCopy_of_mark {s : State} {src : BankId}
    (notCopying : (s.tables.bank s.tables.target).state ≠ .copying)
    (notRetiring : (s.tables.bank s.tables.target).state ≠ .retiring) (active : s.tables.mark = some src) :
    openCopy s =
      ({ s with tables :=
          { s.tables.setBank s.tables.target ((s.tables.bank s.tables.target).clear .copying) with
            copy := some { source := src, dest := s.tables.target, start := s.now, item := 0 } } }, none) := by
  simp only [openCopy, active]

/-! ## The request taken with a slot free -/

theorem full_eq_false_of_slotFree {s : State} (h : s.slotFree) : s.full = false :=
  decide_eq_false (Nat.not_le.2 h)

/-- TABLE_OPEN clear, by the answer of the Table Store (R165). -/
theorem exec_tableOpenClear_of_slotFree {s : State} (h : s.slotFree) (src num : Byte) :
    exec (.tableOpenClear src num) s = .next (s.answered (openClear s).state src num 4#8
      (openClear s).outcome.code (openClear s).outcome.detail (openClear s).body) :=
  congrArg Host.Outcome.next (served_eq_answered h src num 4#8 openClear)

/-- An argument that is neither clear nor copy asks nothing of the Table Store (R80). -/
theorem servedOpen_of_other (src num : Byte) {arg : Nat} (notClear : arg ≠ 1) (notCopy : arg ≠ 2) (s : State) :
    servedOpen src num arg s = served src num 4#8 (fun s => refuse s (.badValue 1)) s := by
  simp only [servedOpen]

/-- An argument that is neither clear nor copy is refused before any bank is looked at (R80). -/
theorem exec_tableOpenBadArgument_of_slotFree {s : State} (h : s.slotFree) (src num : Byte) {arg : Byte}
    (bad : arg = 0#8 ∨ 3 ≤ arg.toNat) :
    exec (.tableOpenBadArgument src num arg) s = .next (s.answered s src num 4#8 3#8 1#8 []) := by
  obtain ⟨notClear, notCopy⟩ : arg.toNat ≠ 1 ∧ arg.toNat ≠ 2 := by
    obtain rfl | beyond := bad
    · decide
    · omega
  exact congrArg Host.Outcome.next
    ((servedOpen_of_other src num notClear notCopy s).trans (served_eq_answered h src num 4#8 _))

/-- TABLE_OPEN copy refused is answered at once (R169). -/
theorem exec_tableOpenCopy_of_refused {s : State} (h : s.slotFree) (src num : Byte) {o : ReplyOutcome}
    (refused : openCopy s = (s, some o)) :
    exec (.tableOpenCopy src num) s = .next (s.answered s src num 4#8 o.code o.detail []) := by
  change Host.Outcome.next (servedCopy src num s) = _
  simp only [servedCopy, full_eq_false_of_slotFree h, refused]
  rfl

/-- TABLE_OPEN copy accepted holds a slot for its reply until the copy ends (R82, R169). -/
theorem exec_tableOpenCopy_of_begun {s t : State} (h : s.slotFree) (src num : Byte)
    (begun : openCopy s = (t, none)) :
    exec (.tableOpenCopy src num) s = .next
      { t with requests := { t.requests with inFlight := some { num := num, dest := src } } } := by
  change Host.Outcome.next (servedCopy src num s) = _
  simp only [servedCopy, full_eq_false_of_slotFree h, begun]
  rfl

/-- Both forms are answered alike when the Table Store refuses both with one outcome. -/
theorem exec_tableOpen_of_refused {s : State} (h : s.slotFree) (src num : Byte) {o : ReplyOutcome}
    (refused : openClear s = refuse s o ∧ openCopy s = (s, some o)) :
    ∀ r ∈ [exec (.tableOpenClear src num) s, exec (.tableOpenCopy src num) s],
      r = .next (s.answered s src num 4#8 o.code o.detail []) := by
  obtain ⟨clear, copy⟩ := refused
  have cleared := exec_tableOpenClear_of_slotFree h src num
  rw [clear] at cleared
  exact List.forall_mem_cons.2 ⟨cleared, List.forall_mem_singleton.2 (exec_tableOpenCopy_of_refused h src num copy)⟩

/-- Settles O37, line by line of R80. -/
theorem tableOpenTakesTarget : Obligations.TableOpenTakesTarget := by
  intro s src num arg k x emptied refused opens free target
  obtain rfl : s.tables.target = k := TableStore.target_eq target
  refine ⟨exec_tableOpenBadArgument_of_slotFree free src num,
    fun copying => exec_tableOpen_of_refused free src num (tableOpen_of_copying copying),
    fun retiring => exec_tableOpen_of_refused free src num (tableOpen_of_retiring retiring),
    fun notCopying notRetiring => ⟨?cleared, fun unmarked => ?noActive, fun active => ?begun⟩⟩
  case cleared =>
    rw [exec_tableOpenClear_of_slotFree free, openClear_of_open notCopying notRetiring]
    rfl
  case noActive =>
    exact exec_tableOpenCopy_of_refused free src num (openCopy_of_no_mark notCopying notRetiring unmarked)
  case begun =>
    exact exec_tableOpenCopy_of_begun free src num (openCopy_of_mark notCopying notRetiring active)

end Sys2Proof.Machine
end

section
/-! PROOFS. The valve fault of a READY channel (R133, R136, R137): a report that is good, what its entries make of a
channel, what a deferred start composes for a channel that is not READY, the channels at the end of a report wait, and
the claim assembled from them. -/

namespace Sys2Proof.Machine

/-! ## A good report -/

/-- The codes 0 to 2 name a position, the code 3 none (section 10.4). -/
theorem armPos?_isSome {n : Nat} (h : n % 4 ≠ 3) : (armPos? (n % 4)).isSome = true := by
  obtain code | code | code : n % 4 = 0 ∨ n % 4 = 1 ∨ n % 4 = 2 := by omega
  all_goals rw [code]; rfl

/-- The contents that R151 asks for, from its three points. -/
theorem reportContents_of_right {s : State} {p : List Byte} (len : p.length = 17)
    (number : rd16 p 0 = s.cycle.number) (valid : ∀ j, j < 5 → rd8 p (4 + 3 * j) % 4 ≠ 3) :
    reportContents s p = true := by
  have positions : (reportEntries p).all (fun e => e.position.isSome) = true := by
    simp only [reportEntries, List.all_map, List.all_eq_true, List.mem_range]
    exact fun j hj => armPos?_isSome (valid j hj)
  simp [reportContents, len, number, positions]

/-- The awaited node's ARM_REPORT with the right contents is taken as a good report, the receiver in HUNT (R151, R152). -/
theorem exec_armReport_of_right {s : State} {l : Line} {w : Wait} {k : Station} {p : List Byte}
    (line : s.mode.line = some l) (wait : s.cycle.wait = some w) (phase : s.cycle.phase = .report k)
    (right : reportContents s p = true) :
    exec (.armReport s.switch.ownAddr (nodeAddr l k) p) s
      = .next (goodReport l k p { s with portD := { s.portD with rx := s.portD.rx.hunt } }) := by
  have right' : reportContents { s with portD := { s.portD with rx := s.portD.rx.hunt } } p = true := right
  change Host.Outcome.next (wholeFrameD _ s) = _
  simp [wholeFrameD, goodFrameD, line, wait, phase, judgeReport, right']

/-! ## The entry of a channel -/

theorem reportEntries_getElem? (p : List Byte) {i : Nat} (hi : i < 5) :
    (reportEntries p)[i]? = some (reportEntry p i) := by
  simp [reportEntries, hi]

/-- A channel takes the entry of its own place, and the entry's position with it (R133, R152). -/
theorem takeEntries_getElem? (r : LineRecord) (x : StationState) (silent : Bool) (p : List Byte) {cs : List Channel}
    {i : Nat} {c : Channel} (hi : i < 5) (channel : cs[i]? = some c) :
    (takeEntries r x silent (reportEntries p) cs)[i]?
      = some { takeEntry r x silent (reportEntry p i) c with position := (reportEntry p i).position } := by
  simp [takeEntries, List.getElem?_zipWith, channel, reportEntries_getElem? p hi]

/-- The valve fault goes before the deviation check, whatever the station and the pressure (R133, R136). -/
theorem takeEntry_of_fault {r : LineRecord} {x : StationState} {silent : Bool} {e : ReportEntry} {c : Channel}
    (ready : c.state = .ready) (fault : e.fault = true) : takeEntry r x silent e c = c.isolate := by
  simp only [takeEntry, ready, fault, if_true]

/-! ## A channel composed -/

theorem mapIndexed_getElem? {α β : Type} (f : Nat → α → β) (n i : Nat) (xs : List α) :
    (mapIndexed f n xs)[i]? = xs[i]?.map (f (n + i)) := by
  induction xs generalizing n i with
  | nil => rfl
  | cons x rest ih =>
    cases i with
    | zero => rfl
    | succ i =>
      simp only [mapIndexed, List.getElem?_cons_succ, ih]
      rw [Nat.add_right_comm, Nat.add_assoc]

@[simp] theorem compose_channels_get (s : State) (k : Station) :
    (compose s).arms.channels.get k = mapIndexed (composeChannel s k) 0 (s.arms.channels.get k) := by
  cases k <;> rfl

/-- A channel that is not READY has no target (R97). -/
theorem closeTarget_of_not_ready (s : State) (k : Station) (i : Nat) {c : Channel} (h : c.state ≠ .ready) :
    s.closeTarget k i c = none := by
  unfold State.closeTarget
  split
  · simp [h]
  · rfl

/-- A channel that is not READY is composed OPEN (R97, R131). -/
theorem composeChannel_of_not_ready (s : State) (k : Station) (i : Nat) {c : Channel} (h : c.state ≠ .ready) :
    composeChannel s k i c =
      { c with previous := c.lastSent, lastSent := 0, closedCycles := 0, deviations := 0, clamp := false } := by
  simp only [composeChannel, closeTarget_of_not_ready s k i h]

/-! ## The channels at the end of a report wait

Of what follows a report wait only a deferred start touches the Arm Controller: it composes the channels (R145, R146). -/

@[simp] theorem abortReception_arms (s : State) : (abortReception s).arms = s.arms := by
  unfold abortReception
  split <;> rfl

@[simp] theorem abortReception_cycle (s : State) : (abortReception s).cycle = s.cycle := by
  unfold abortReception
  split <;> rfl

@[simp] theorem driveD_arms (f : Frame) (s : State) : (driveD f s).arms = s.arms := by
  unfold driveD
  split
  · rfl
  · exact abortReception_arms s

@[simp] theorem driveD_cycle (f : Frame) (s : State) : (driveD f s).cycle = s.cycle := by
  unfold driveD
  split
  · rfl
  · exact abortReception_cycle s

@[simp] theorem sendHead_arms (e : DownEntry) (rest : List DownEntry) (s : State) :
    (sendHead e rest s).arms = s.arms :=
  driveD_arms _ _

@[simp] theorem sendHead_deferred (e : DownEntry) (rest : List DownEntry) (s : State) :
    (sendHead e rest s).cycle.deferred = s.cycle.deferred := by
  rw [sendHead, driveD_cycle]

/-- Examining the head at the window's opening concerns neither the Arm Controller nor a deferred start (R156, R157). -/
theorem openExamine_arms_deferred (l : Line) (s : State) :
    (openExamine l s).arms = s.arms ∧ (openExamine l s).cycle.deferred = s.cycle.deferred := by
  unfold openExamine
  split
  · exact ⟨rfl, rfl⟩
  · split
    · exact ⟨sendHead_arms _ _ _, sendHead_deferred _ _ _⟩
    · split
      · exact ⟨rfl, rfl⟩
      · dsimp only
        split
        · exact ⟨rfl, rfl⟩
        · split
          · exact ⟨sendHead_arms _ _ _, sendHead_deferred _ _ _⟩
          · exact ⟨rfl, rfl⟩

/-- The Arm Controller stays, or a deferred start composes its channels (R145, R146). -/
def DeferredComposes (s t : State) : Prop :=
  t.arms = s.arms ∨ s.cycle.deferred = true ∧ ∃ u : State, u.arms = s.arms ∧ t.arms = (compose u).arms

/-- A start taken composes the channels, if there is a line record to start with. -/
theorem startCycle_arms (s : State) :
    (startCycle s).arms = s.arms ∨ ∃ u : State, u.arms = s.arms ∧ (startCycle s).arms = (compose u).arms := by
  unfold startCycle
  split
  · exact .inl rfl
  · exact .inr ⟨_, rfl, driveD_arms _ _⟩

theorem startCycle_deferredComposes {s : State} (h : s.cycle.deferred = true) : DeferredComposes s (startCycle s) :=
  (startCycle_arms s).imp_right fun composes => ⟨h, composes⟩

theorem takeDeferred_deferredComposes (s : State) : DeferredComposes s (takeDeferred s) := by
  unfold takeDeferred
  split
  · split
    · next h => exact startCycle_deferredComposes h
    · exact .inl rfl
  · split
    · next h => exact startCycle_deferredComposes h
    · exact .inl rfl
  · exact .inl rfl

theorem openWindow_deferredComposes (l : Line) (s : State) : DeferredComposes s (openWindow l s) := by
  obtain ⟨arms, deferred⟩ := openExamine_arms_deferred l s
  have taken := takeDeferred_deferredComposes (openExamine l s)
  rw [DeferredComposes, arms, deferred] at taken
  exact taken

theorem afterReport_deferredComposes (l : Line) (k : Station) (s : State) : DeferredComposes s (afterReport l k s) := by
  have opens : DeferredComposes s (openWindow l (endWait s)) := openWindow_deferredComposes l (endWait s)
  unfold afterReport
  cases k with
  | one =>
    dsimp only
    split
    · exact .inl (driveD_arms _ _)
    · exact opens
  | two => exact opens

/-- A channel that is not READY is kept, or composed OPEN by a deferred start (R97, R145). -/
theorem DeferredComposes.channel_of_not_ready {s t : State} (h : DeferredComposes s t) {k : Station} {i : Nat}
    {c : Channel} (channel : (s.arms.channels.get k)[i]? = some c) (notReady : c.state ≠ .ready) :
    (t.arms.channels.get k)[i]? = some c ∨ s.cycle.deferred = true ∧ (t.arms.channels.get k)[i]? = some
      { c with previous := c.lastSent, lastSent := 0, closedCycles := 0, deviations := 0, clamp := false } := by
  obtain kept | ⟨deferred, u, same, composed⟩ := h
  · exact .inl (by rw [kept, channel])
  · refine .inr ⟨deferred, ?_⟩
    rw [composed, compose_channels_get, mapIndexed_getElem?, same, channel]
    exact congrArg some (composeChannel_of_not_ready u k _ notReady)

/-! ## The claim -/

/-- A good report leaves a READY channel with a valve fault isolated at its entry's position, before what follows the
wait (R136, R137, R152). -/
theorem goodReport_channel_of_fault (l : Line) {k : Station} {p : List Byte} {s : State} {i : Nat} {c : Channel}
    (hi : i < 5) (channel : (s.arms.channels.get k)[i]? = some c) (ready : c.state = .ready)
    (fault : 128 ≤ rd8 p (4 + 3 * i)) :
    let d := { c.isolate with position := armPos? (rd8 p (4 + 3 * i) % 4) }
    ((goodReport l k p s).arms.channels.get k)[i]? = some d
    ∨ s.cycle.deferred = true ∧ ((goodReport l k p s).arms.channels.get k)[i]? = some
      { d with previous := d.lastSent, lastSent := 0, closedCycles := 0, deviations := 0, clamp := false } := by
  refine (afterReport_deferredComposes l k _).channel_of_not_ready ?taken (by simp [Channel.isolate])
  have faulted : (reportEntry p i).fault = true := decide_eq_true fault
  rw [State.setNode_arms, State.onChannels_arms_channels, Pair.get_set_same, takeEntries_getElem? _ _ _ p hi channel,
    takeEntry_of_fault ready faulted]
  rfl

/-- Settles O57: the report is good, its entry isolates the channel, and a deferred start at most composes it OPEN,
which leaves the four fields named. -/
theorem valveFaultIsolatesChannel : Obligations.ValveFaultIsolatesChannel := by
  intro s l w k p i c addr line wait phase len number valid hi channel ready fault
  have address : addr = nodeAddr l k := by cases k <;> rfl
  have taken := exec_armReport_of_right line wait phase (reportContents_of_right len number valid)
  rw [address, taken]
  obtain kept | ⟨deferred, composed⟩ := goodReport_channel_of_fault l (p := p)
    (s := { s with portD := { s.portD with rx := s.portD.rx.hunt } }) hi channel ready fault
  · exact ⟨_, _, rfl, kept, rfl, rfl, rfl, rfl, fun _ => rfl⟩
  · exact ⟨_, _, rfl, composed, rfl, rfl, rfl, rfl,
      fun notDeferred => absurd (deferred.symm.trans notDeferred) (by decide)⟩

end Sys2Proof.Machine
end

section
/-! PROOFS. What Request Service does by itself (R165, R170, R175): a request that finds no reply slot, the refusals
of form and code, COUNTERS_READ, and the two claims assembled from them. -/

namespace Sys2Proof.Machine

/-! ## A request that finds no reply slot (R170) -/

theorem full_of_not_slotFree {s : State} (h : ¬ s.slotFree) : s.full = true :=
  decide_eq_true (Nat.not_lt.1 h)

theorem servedCopy_of_full {s : State} (h : s.full = true) (src num : Byte) :
    servedCopy src num s = s.bump .replyOverflow := by
  rw [servedCopy, if_pos h]

theorem servedOpen_of_full {s : State} (h : s.full = true) (src num : Byte) (arg : Nat) :
    servedOpen src num arg s = s.bump .replyOverflow := by
  unfold servedOpen
  split
  · exact served_of_full h ..
  · exact servedCopy_of_full h ..
  · exact served_of_full h ..

/-- Whatever its code, a request of the right form is discarded before its block sees it. -/
theorem execute_of_full {s : State} (h : s.full = true) (src num code : Byte) (body : List Byte) :
    execute src num code body s = s.bump .replyOverflow := by
  simp only [execute, served_of_full h, servedOpen_of_full h]
  split <;> rfl

/-- Neither the code nor the length of the body matters to a request that is discarded. -/
theorem takeCode_of_full {s : State} (h : s.full = true) (src num code : Byte) (body : List Byte) :
    takeCode src num code body s = s.bump .replyOverflow := by
  unfold takeCode
  split
  · exact served_of_full h ..
  · split
    · exact execute_of_full h ..
    · exact served_of_full h ..

/-- Nor does it matter whether the payload holds a number and a code at all. -/
theorem takeRequest_of_full {s : State} (h : s.full = true) (src : Byte) (p : List Byte) :
    takeRequest src p s = s.bump .replyOverflow := by
  unfold takeRequest
  split
  · exact served_of_full h ..
  · exact served_of_full h ..
  · exact takeCode_of_full h ..

/-- The request rows by how they hand the request over: by its payload, by its code and body, as TABLE_OPEN (R80,
R169), or to the block of a row that the operands alone name. -/
theorem exec_request_of_full {s : State} (h : s.full = true) {c : Instr} (request : isRequestRow c = true) :
    exec c s = .next (s.bump .replyOverflow) := by
  cases c with
  | requestOverflow | badForm => exact congrArg Host.Outcome.next (takeRequest_of_full h ..)
  | unknownRequest | lineLoad | tableEntry | tableTrim => exact congrArg Host.Outcome.next (takeCode_of_full h ..)
  | tableOpenCopy => exact congrArg Host.Outcome.next (servedCopy_of_full h ..)
  | tableOpenBadArgument => exact congrArg Host.Outcome.next (servedOpen_of_full h ..)
  | modeSetRun | modeSetFinish | modeSetStop | modeSetClear | modeSetBadArgument | ambientSet | tableOpenClear
  | tableClose | tableSwap | tableRead | armRestore | statusRead | logList | countersRead | countersReadClear
  | countersReadBadOption | lineReset => exact congrArg Host.Outcome.next (served_of_full h ..)
  | _ => exact absurd request Bool.false_ne_true

/-! ## Refusals of Request Service itself (R165) -/

/-- A refusal with a slot free leaves the state as it was, with its outcome as an empty reply (R166). -/
theorem served_refuse_of_slotFree {s : State} (h : s.slotFree) (src num code : Byte) (o : ReplyOutcome) :
    served src num code (fun s => refuse s o) s = s.answered s src num code o.code o.detail [] :=
  served_eq_answered h src num code _

/-- The codes that section 9.1 does not name. -/
theorem bodyLength?_eq_none {n : Nat} (outside : n = 0 ∨ 15 ≤ n) : bodyLength? n = none := by
  obtain rfl | beyond := outside
  · rfl
  · obtain ⟨m, rfl⟩ := Nat.exists_eq_add_of_le' beyond
    rfl

theorem takeCode_of_unknown {s : State} {code : Byte} (unknown : bodyLength? code.toNat = none) (src num : Byte)
    (body : List Byte) :
    takeCode src num code body s = served src num code (fun s => refuse s .unknownRequest) s := by
  simp only [takeCode, unknown]

theorem takeCode_of_length_ne {s : State} {code : Byte} {n : Nat} (known : bodyLength? code.toNat = some n)
    {body : List Byte} (wrong : body.length ≠ n) (src num : Byte) :
    takeCode src num code body s = served src num code (fun s => refuse s .badForm) s := by
  simp only [takeCode, known, beq_false_of_ne wrong, Bool.false_eq_true, if_false, servedBadForm]

/-- Settles O29: with every slot taken all request rows end alike; with one free, each form at fault is one refusal. -/
theorem requestsDiscardedOrMalformed : Obligations.RequestsDiscardedOrMalformed := by
  refine ⟨fun s c request full => exec_request_of_full (full_of_not_slotFree full) request,
    fun s src p full => exec_request_of_full (full_of_not_slotFree full) rfl,
    fun s src num code body free => ⟨?noBytes, ?oneByte, fun n known wrong => ?length, fun outside => ?unknown⟩⟩
  case noBytes =>
    exact congrArg Host.Outcome.next (served_refuse_of_slotFree free src 0#8 0#8 .badForm)
  case oneByte =>
    exact congrArg Host.Outcome.next (served_refuse_of_slotFree free src num 0#8 .badForm)
  case length =>
    exact congrArg Host.Outcome.next
      ((takeCode_of_length_ne known wrong src num).trans (served_refuse_of_slotFree free src num code .badForm))
  case unknown =>
    have unknown : bodyLength? code.toNat = none :=
      bodyLength?_eq_none (outside.imp_left (congrArg BitVec.toNat))
    exact congrArg Host.Outcome.next
      ((takeCode_of_unknown unknown src num body).trans (served_refuse_of_slotFree free src num code .unknownRequest))

/-! ## COUNTERS_READ (R175) -/

theorem Counters.zero_get (c : Counter) : Counters.zero.get c = 0 := by
  cases c <;> rfl

/-- Twenty counters of two bytes each (R174). -/
theorem counterBytes_length (k : Counters) : (counterBytes k).length = 40 := rfl

theorem countersByOption_of_other {opt : Nat} (notRead : opt ≠ 0) (notClear : opt ≠ 1) (s : State) :
    countersByOption opt s = refuse s (.badValue 1) := by
  simp only [countersByOption]

/-- Settles O44: the answers of the three rows, given with a slot free. -/
theorem countersReadAndClear : Obligations.CountersReadAndClear := by
  intro s src num opt free k body
  refine ⟨Counters.zero, Counters.zero_get, ?read, ?clear, fun notRead notClear => ?refused, counterBytes_length k⟩
  case read => exact congrArg Host.Outcome.next (served_eq_answered free src num 13#8 readCounters)
  case clear => exact congrArg Host.Outcome.next (served_eq_answered free src num 13#8 readClearCounters)
  case refused =>
    have other : countersByOption opt.toNat s = refuse s (.badValue 1) :=
      countersByOption_of_other (fun h => notRead (BitVec.eq_of_toNat_eq h))
        (fun h => notClear (BitVec.eq_of_toNat_eq h)) s
    have answered := served_eq_answered free src num 13#8 (countersByOption opt.toNat)
    rw [other] at answered
    exact congrArg Host.Outcome.next answered

end Sys2Proof.Machine
end

section
/-! PROOFS. Invariants, packaged once: what a predicate must survive so that every command keeps it. The link's
primitives carry the ports, the cycle and the requests; the Log Tracker's primitives carry every change of a record;
from these each command is shown to keep the predicate, so that an invariant's own proof speaks of primitives alone. -/

namespace Sys2Proof.Machine

/-! ## The link, the switch and the arm cycle -/

/-- A change of the Cycle Master's own values within a running cycle: number, due moment, commands and nodes stay, it
does not halt, and the head misses stay below three (R143, R157). -/
structure CycleMoves (c d : CycleMaster) : Prop where
  number : d.number = c.number
  nextDue : d.nextDue = c.nextDue
  composed : d.composed = c.composed
  nodes : d.nodes = c.nodes
  phase : d.phase = c.phase ∨ d.phase ≠ .halted
  misses : d.headMiss = c.headMiss ∨ d.headMiss ≤ 2

/-- The primitives of the ports, the Frame Switch and the arm cycle, each kept by a predicate. -/
structure LinkKept (P : State → Prop) : Prop where
  clock : ∀ {s}, P s → ∀ n, P { s with now := n }
  queue : ∀ {s}, P s → ∀ q, P { s with pending := q }
  portU : ∀ {s}, P s → ∀ u, P { s with portU := u }
  rxD : ∀ {s}, P s → ∀ r, P { s with portD := { s.portD with rx := r } }
  cut : ∀ {s}, P s → ∀ c, P { s with portD := { s.portD with cut := c } }
  bump : ∀ {s}, P s → ∀ c, P (s.bump c)
  taken : ∀ {s}, P s → ∀ k, P (takeFrom k s)
  start : ∀ {s}, P s → P (startCycle s)
  drive : ∀ {s}, P s → s.mode.line ≠ none → ∀ f, P (driveD f s)
  cycle : ∀ {s}, P s → s.mode.line ≠ none → ∀ {d}, CycleMoves s.cycle d → P { s with cycle := d }
  heard : ∀ {s}, P s → ∀ w v, s.cycle.wait = some w → P { s with cycle := { s.cycle with wait := some v } }
  defer : ∀ {s}, P s → P { s with cycle := { s.cycle with deferred := true } }
  missed : ∀ {s}, P s → ∀ k, P (s.setNode k (s.cycle.nodes.get k).miss)
  found : ∀ {s}, P s → ∀ k, P (s.setNode k { missing := 0, silent := false })
  report : ∀ {s}, P s → ∀ {l}, s.mode.line = some l → ∀ k x q p, P (s.onChannels k (takeEntries l.record x q (reportEntries p)))
  popped : ∀ {s}, P s → ∀ e rest, s.switch.down = e :: rest → P { s with switch := { s.switch with down := rest } }
  pushed : ∀ {s}, P s → ∀ e : DownEntry, s.mode.mode ≠ .unset →
    s.switch.downOccupancy + storedSize e.frame ≤ Config.forwardCapacity →
      P { s with switch := { s.switch with down := s.switch.down ++ [e] } }
  offerUp : ∀ {s}, P s → ∀ f, P (offerUp f s)
  released : ∀ {s}, P s → P { s with portD := { s.portD with tx := none } }
  handed : ∀ {s}, P s → ∀ x f rest, s.portD.tx = some x →
    P (driveD f { s with portD := { s.portD with tx := none, waiting := rest } })

namespace LinkKept

variable {P : State → Prop} (h : LinkKept P) {s : State} {l : Line}
include h

theorem reach (hs : P s) (n : Nat) : P (s.reach n) := h.clock hs _

theorem bump? (hs : P s) (c : Option Counter) : P (s.bump? c) := by
  cases c with
  | none => exact hs
  | some c => exact h.bump hs c

theorem forwarding (hs : P s) (hl : s.mode.line = some l) (f : Forwarding) : P (s.forwarding f) :=
  h.cycle hs (by simp [hl]) ⟨rfl, rfl, rfl, rfl, .inr (by simp), .inl rfl⟩

theorem beginWait (hs : P s) (hl : s.mode.line = some l) : P (beginWait s) :=
  h.cycle hs (by simp [hl]) ⟨rfl, rfl, rfl, rfl, .inl rfl, .inl rfl⟩

theorem endWait (hs : P s) (hl : s.mode.line = some l) : P (endWait s) :=
  h.cycle hs (by simp [hl]) ⟨rfl, rfl, rfl, rfl, .inl rfl, .inl rfl⟩

theorem takeDeferred (hs : P s) : P (takeDeferred s) := by
  unfold Machine.takeDeferred
  split
  · split
    · exact h.start hs
    · exact hs
  · split
    · exact h.start hs
    · exact hs
  · exact hs

theorem sendHead (hs : P s) (hl : s.mode.line = some l) {e : DownEntry} {rest : List DownEntry}
    (hd : s.switch.down = e :: rest) : P (sendHead e rest s) := by
  have moved := h.cycle (h.popped hs e rest hd) (by simp [hl]) (d := { s.cycle with
    phase := .window (.sending e.awaited e.frame.dest), headMiss := 0 })
    ⟨rfl, rfl, rfl, rfl, .inr (by simp), .inr (Nat.zero_le _)⟩
  exact h.drive moved (by simp [hl]) e.frame

theorem examineHead (hs : P s) (hl : s.mode.line = some l) : P (examineHead l s) := by
  unfold Machine.examineHead
  split
  · exact h.forwarding hs hl _
  · next e rest hd =>
    split
    · exact h.sendHead hs hl hd
    · exact h.forwarding hs hl _

theorem missHead (hs : P s) (hl : s.mode.line = some l) {n : Nat} (hn : n ≤ 2) : P (missHead n s) :=
  h.cycle hs (by simp [hl]) ⟨rfl, rfl, rfl, rfl, .inr (by simp), .inr hn⟩

/-- A head discarded at its third miss (R157). -/
theorem discarded (hs : P s) (hl : s.mode.line = some l) {e : DownEntry} {rest : List DownEntry}
    (hd : s.switch.down = e :: rest) :
    P (({ s with switch := { s.switch with down := rest },
                 cycle := { s.cycle with headMiss := 0 } } : State).bump .serviceDiscarded) :=
  h.bump (h.cycle (h.popped hs e rest hd) (by simp [hl]) (d := { s.cycle with headMiss := 0 })
    ⟨rfl, rfl, rfl, rfl, .inl rfl, .inr (Nat.zero_le _)⟩) _

theorem openExamine (hs : P s) (hl : s.mode.line = some l) : P (openExamine l s) := by
  unfold Machine.openExamine
  split
  · exact h.forwarding hs hl _
  · next e rest hd =>
    split
    · exact h.sendHead hs hl hd
    · split
      · next hm => exact h.missHead hs hl (by unfold Config.missLimit at hm; omega)
      · have gone := h.discarded hs hl hd
        dsimp only
        split
        · exact h.forwarding gone hl _
        · split
          · exact h.sendHead gone hl rfl
          · exact h.missHead gone hl (by omega)

theorem nextHead (hs : P s) (hl : s.mode.line = some l) : P (nextHead l s) := h.takeDeferred (h.examineHead hs hl)

theorem openWindow (hs : P s) (hl : s.mode.line = some l) : P (openWindow l s) :=
  h.takeDeferred (h.openExamine hs hl)

theorem sendSetpoint (hs : P s) (hl : s.mode.line = some l) (k : Station) : P (sendSetpoint l k s) :=
  h.drive (h.cycle hs (by simp [hl]) (d := { s.cycle with phase := .setpoint k })
    ⟨rfl, rfl, rfl, rfl, .inr (by simp), .inl rfl⟩) (by simp [hl]) _

theorem afterReport (hs : P s) (hl : s.mode.line = some l) (k : Station) : P (afterReport l k s) := by
  have ended := h.endWait hs hl
  unfold Machine.afterReport
  cases k with
  | two => exact h.openWindow ended hl
  | one =>
    dsimp only
    split
    · exact h.sendSetpoint ended hl .two
    · exact h.openWindow ended hl

theorem afterReply (hs : P s) (hl : s.mode.line = some l) : P (afterReply l s) := h.nextHead (h.endWait hs hl) hl

theorem reportMissing (hs : P s) (hl : s.mode.line = some l) (k : Station) : P (reportMissing l k s) :=
  h.afterReport (h.bump (h.missed hs k) _) hl k

theorem goodReport (hs : P s) (hl : s.mode.line = some l) (k : Station) (p : List Byte) : P (goodReport l k p s) :=
  h.afterReport (h.found (h.report hs hl k _ _ _) k) hl k

theorem judgeReport (hs : P s) (hl : s.mode.line = some l) (k : Station) (f : Frame) : P (judgeReport l k f s) := by
  unfold Machine.judgeReport
  split
  · exact h.reportMissing (h.bump hs _) hl k
  · split
    · exact h.goodReport hs hl k _
    · exact h.reportMissing hs hl k

theorem judgeReply (hs : P s) (hl : s.mode.line = some l) (a : Byte) (f : Frame) : P (judgeReply l a f s) := by
  have same : (Machine.offerUp f s).mode = s.mode := by unfold Machine.offerUp; split <;> rfl
  unfold Machine.judgeReply
  split
  · exact h.afterReply (h.offerUp hs f) (by rw [same, hl])
  · exact h.afterReply (h.bump hs _) hl

theorem goodFrameD (hs : P s) (f : Frame) : P (goodFrameD f s) := by
  unfold Machine.goodFrameD
  split
  · next hl _ _ => exact h.judgeReport hs hl _ f
  · next hl _ _ => exact h.judgeReply hs hl _ f
  · exact h.bump hs _

theorem badFrameD (hs : P s) : P (badFrameD s) := by
  unfold Machine.badFrameD
  split
  · next hl _ _ => exact h.reportMissing hs hl _
  · next hl _ _ => exact h.afterReply hs hl
  · exact hs

theorem startSeenD (hs : P s) : P (startSeenD s) := by
  unfold Machine.startSeenD
  split
  · next w hw => exact h.heard hs w _ hw
  · exact hs

theorem reportD (hs : P s) (r : RxReport) : P (reportD r s) := by
  cases r with
  | quiet | headerGood => exact hs
  | begun => exact h.startSeenD hs
  | aborted | headerFailed | crcFailed => exact h.badFrameD hs
  | good f => exact h.goodFrameD hs f

theorem endAtCut (hs : P s) (r : RxReport) : P (endAtCut r s) := by
  cases r with
  | good => exact h.bump (h.bump hs _) _
  | _ => exact h.bump hs _

theorem byteD (hs : P s) (b : Byte) : P (byteD b s) := by
  unfold Machine.byteD
  split
  · unfold byteAtCut
    split
    · exact hs
    · split
      · exact h.endAtCut (h.cut hs none) _
      · exact hs
  · exact h.reportD (h.bump? (h.rxD hs _) _) _

theorem gapD (hs : P s) : P (gapD s) := by
  unfold Machine.gapD
  split
  · exact h.badFrameD (h.bump (h.rxD (h.reach hs _) _) _)
  · exact hs

theorem gapU (hs : P s) : P (gapU s) := by
  unfold Machine.gapU
  split
  · exact h.bump (h.portU (h.reach hs _) _) _
  · exact hs

theorem wholeFrameD (hs : P s) (f : Frame) : P (wholeFrameD f s) := h.goodFrameD (h.rxD hs _) f

theorem driveU (hs : P s) (n : Nat) (f : Option Frame) : P (driveU n f s) := by
  cases f <;> exact h.portU hs _

theorem arbitrate (hs : P s) : P (arbitrate s) := by
  have reached := h.reach hs s.portU.byteEnds
  unfold Machine.arbitrate
  dsimp only
  split
  · exact h.driveU reached _ _
  · exact h.driveU (h.taken reached _) _ _

theorem frameEnded (hs : P s) : P (frameEnded s) := by
  unfold Machine.frameEnded
  split
  · exact h.start hs
  · split
    · next hl _ => exact h.sendSetpoint hs hl _
    · next k hl _ =>
      have reported := h.cycle hs (by simp [hl]) (d := { s.cycle with phase := .report k })
        ⟨rfl, rfl, rfl, rfl, .inr (by simp), .inl rfl⟩
      exact h.beginWait reported hl
    · next hl _ =>
      split
      · exact h.beginWait (h.forwarding hs hl _) hl
      · exact h.nextHead hs hl
    · exact hs

theorem endFrameD (hs : P s) : P (endFrameD s) := by
  unfold Machine.endFrameD
  split
  · exact hs
  · next x hx =>
    have reached := h.reach hs x.endsAt
    dsimp only
    split
    · exact h.frameEnded (h.released reached)
    · exact h.handed reached x _ _ hx

theorem startDue (hs : P s) (due : Nat) : P (startDue due s) := by
  have reached := h.reach hs due
  unfold Machine.startDue
  split
  · dsimp only
    split
    · exact h.start reached
    · exact h.start reached
    · exact reached
    · exact h.defer reached
  · exact hs

theorem reportTimeoutRuns (hs : P s) : P (reportTimeoutRuns s) := by
  unfold Machine.reportTimeoutRuns
  split
  · next hl _ _ =>
    split
    · exact hs
    · exact h.reportMissing (h.reach hs _) hl _
  · exact hs

theorem reportLimitReached (hs : P s) : P (reportLimitReached s) := by
  unfold Machine.reportLimitReached
  split
  · next hl _ _ =>
    split
    · exact h.reportMissing (h.reach hs _) hl _
    · exact hs
  · exact hs

theorem replyTimeoutRuns (hs : P s) : P (replyTimeoutRuns s) := by
  unfold Machine.replyTimeoutRuns
  split
  · next hl _ _ =>
    split
    · exact hs
    · exact h.afterReply (h.reach hs _) hl
  · exact hs

theorem replyLimitReached (hs : P s) : P (replyLimitReached s) := by
  unfold Machine.replyLimitReached
  split
  · next hl _ _ =>
    split
    · exact h.afterReply (h.reach hs _) hl
    · exact hs
  · exact hs

theorem offerDown (hs : P s) (f : Frame) (a : Bool) : P (offerDown f a s) := by
  unfold Machine.offerDown
  split
  · next hr =>
    simp only [Bool.and_eq_true, bne_iff_ne, ne_eq, decide_eq_true_eq] at hr
    have queued := h.pushed hs { frame := f, awaited := a } hr.1 hr.2
    unfold examineOffered
    split
    · next hl _ => exact h.examineHead queued hl
    · exact queued
  · exact h.bump hs _

theorem offerCopy (hs : P s) (f : Frame) : P (offerCopy f s) := by
  unfold Machine.offerCopy
  split
  · split
    · exact h.offerDown hs f false
    · exact hs
  · exact hs

end LinkKept

/-- What the link and the cycle leave alone of the blocks behind them. -/
structure LinkFrame (s t : State) : Prop where
  mode : t.mode = s.mode
  tables : t.tables = s.tables
  travel : t.travel = s.travel
  inputs : t.inputs = s.inputs
  tracker : t.tracker = s.tracker
  stations : t.arms.stations = s.arms.stations
  inFlight : t.requests.inFlight = s.requests.inFlight

theorem CycleFrame.linkFrame {s t : State} (h : CycleFrame s t) : LinkFrame s t :=
  ⟨h.mode, h.tables, h.travel, h.inputs, h.tracker, h.stations, h.inFlight⟩

/-- A predicate on the blocks behind the link alone is kept by every primitive of the link. -/
theorem LinkKept.of_linkFrame {P : State → Prop} (h : ∀ {s t}, P s → LinkFrame s t → P t) : LinkKept P where
  clock hs _ := h hs ⟨rfl, rfl, rfl, rfl, rfl, rfl, rfl⟩
  queue hs _ := h hs ⟨rfl, rfl, rfl, rfl, rfl, rfl, rfl⟩
  portU hs _ := h hs ⟨rfl, rfl, rfl, rfl, rfl, rfl, rfl⟩
  rxD hs _ := h hs ⟨rfl, rfl, rfl, rfl, rfl, rfl, rfl⟩
  cut hs _ := h hs ⟨rfl, rfl, rfl, rfl, rfl, rfl, rfl⟩
  bump hs _ := h hs ⟨rfl, rfl, rfl, rfl, rfl, rfl, rfl⟩
  taken hs k := h hs (by cases k <;> exact ⟨rfl, rfl, rfl, rfl, rfl, rfl, rfl⟩)
  start hs := h hs (startCycle_cycleFrame _).linkFrame
  drive hs _ f := h hs (driveD_cycleFrame f _).linkFrame
  cycle hs _ _ _ := h hs ⟨rfl, rfl, rfl, rfl, rfl, rfl, rfl⟩
  heard hs _ _ _ := h hs ⟨rfl, rfl, rfl, rfl, rfl, rfl, rfl⟩
  defer hs := h hs ⟨rfl, rfl, rfl, rfl, rfl, rfl, rfl⟩
  missed hs _ := h hs ⟨rfl, rfl, rfl, rfl, rfl, rfl, rfl⟩
  found hs _ := h hs ⟨rfl, rfl, rfl, rfl, rfl, rfl, rfl⟩
  report hs _ _ _ _ _ _ := h hs ⟨rfl, rfl, rfl, rfl, rfl, rfl, rfl⟩
  popped hs _ _ _ := h hs ⟨rfl, rfl, rfl, rfl, rfl, rfl, rfl⟩
  pushed hs _ _ _ := h hs ⟨rfl, rfl, rfl, rfl, rfl, rfl, rfl⟩
  offerUp hs f := h hs (by unfold Machine.offerUp; split <;> exact ⟨rfl, rfl, rfl, rfl, rfl, rfl, rfl⟩)
  released hs := h hs ⟨rfl, rfl, rfl, rfl, rfl, rfl, rfl⟩
  handed hs _ f _ _ :=
    let g := (driveD_cycleFrame f _).linkFrame
    h hs ⟨g.mode, g.tables, g.travel, g.inputs, g.tracker, g.stations, g.inFlight⟩

end Sys2Proof.Machine
end

section
/-! PROOFS. Requests and commands, packaged once: a predicate kept by the answer of each block that a request can reach
is kept by every request, and a predicate that each command's own operation leads to another one is led there by every
command and every step. -/

namespace Sys2Proof.Machine

/-! ## Requests -/

/-- What the blocks do on a request (R171), each with the reply placed when a slot was free, leads from P to Q. -/
structure RequestsLead (P Q : State → Prop) : Prop where
  overflow : ∀ {s}, P s → Q (s.bump .replyOverflow)
  same : ∀ {s}, P s → s.full = false → ∀ f, Q (s.placeReply f)
  loadLine : ∀ {s}, P s → s.full = false → ∀ p f, Q ((loadLine p s).state.placeReply f)
  modeRun : ∀ {s}, P s → s.full = false → ∀ f, Q ((modeRun s).state.placeReply f)
  modeFinish : ∀ {s}, P s → s.full = false → ∀ f, Q ((modeFinish s).state.placeReply f)
  modeStop : ∀ {s}, P s → s.full = false → ∀ f, Q ((modeStop s).state.placeReply f)
  modeClear : ∀ {s}, P s → s.full = false → ∀ f, Q ((modeClear s).state.placeReply f)
  setAmbient : ∀ {s}, P s → s.full = false → ∀ z f, Q ((setAmbient z s).state.placeReply f)
  openClear : ∀ {s}, P s → s.full = false → ∀ f, Q ((openClear s).state.placeReply f)
  openCopy : ∀ {s}, P s → s.full = false → ∀ {t}, openCopy s = (t, none) → ∀ q,
    Q { t with requests := { t.requests with inFlight := some q } }
  writeEntry : ∀ {s}, P s → s.full = false → ∀ p f, Q ((writeEntry p s).state.placeReply f)
  writeTrims : ∀ {s}, P s → s.full = false → ∀ p f, Q ((writeTrims p s).state.placeReply f)
  closeBank : ∀ {s}, P s → s.full = false → ∀ f, Q ((closeBank s).state.placeReply f)
  swapBanks : ∀ {s}, P s → s.full = false → ∀ f, Q ((swapBanks s).state.placeReply f)
  armRestore : ∀ {s}, P s → s.full = false → ∀ c f, Q ((armRestore c s).state.placeReply f)
  clearCounters : ∀ {s}, P s → s.full = false → ∀ f, Q ((readClearCounters s).state.placeReply f)
  lineReset : ∀ {s}, P s → s.full = false → ∀ f, Q ((lineReset s).state.placeReply f)

/-- TABLE_OPEN copy refused leaves the state as it was (R80). -/
theorem openCopy_refused {s t : State} {o : ReplyOutcome} (h : openCopy s = (t, some o)) : t = s := by
  unfold openCopy at h
  dsimp only at h
  split at h <;> simp_all

/-- TABLE_READ only reads (R92). -/
theorem readTable_state (bank item : Byte) (s : State) : (readTable bank item s).state = s := by
  unfold readTable
  split
  · rfl
  · dsimp only
    split
    · split <;> rfl
    · split
      · rfl
      · split <;> rfl

namespace RequestsLead

variable {P Q : State → Prop} (h : RequestsLead P Q) {s : State}
include h

/-- A request leads to Q when its block's answer does (R165, R170). -/
theorem served_of (hs : P s) (src num code : Byte) {act : State → Answer}
    (answers : s.full = false → ∀ f, Q ((act s).state.placeReply f)) : Q (served src num code act s) := by
  cases hf : s.full with
  | true => rw [served_of_full hf]; exact h.overflow hs
  | false => rw [served_of_free hf]; exact answers hf _

/-- A request whose block changes nothing. -/
theorem served_same (hs : P s) (src num code : Byte) {act : State → Answer} (same : (act s).state = s) :
    Q (served src num code act s) :=
  h.served_of hs src num code fun hf f => by rw [same]; exact h.same hs hf f

theorem modeSet (hs : P s) (src num : Byte) (arg : Nat) : Q (served src num 2#8 (modeSet arg) s) := by
  refine h.served_of hs _ _ _ fun hf f => ?_
  unfold Machine.modeSet
  split
  · exact h.modeRun hs hf f
  · exact h.modeFinish hs hf f
  · exact h.modeStop hs hf f
  · exact h.modeClear hs hf f
  · exact h.same hs hf f

theorem countersByOption (hs : P s) (src num : Byte) (opt : Nat) :
    Q (served src num 13#8 (countersByOption opt) s) := by
  refine h.served_of hs _ _ _ fun hf f => ?_
  unfold Machine.countersByOption
  split
  · exact h.same hs hf f
  · exact h.clearCounters hs hf f
  · exact h.same hs hf f

theorem servedCopy (hs : P s) (src num : Byte) : Q (servedCopy src num s) := by
  unfold Machine.servedCopy
  split
  · exact h.overflow hs
  · next hf =>
    have hf : s.full = false := Bool.eq_false_iff.2 hf
    split
    · next t o ho => rw [openCopy_refused ho]; exact h.same hs hf _
    · next t ho => exact h.openCopy hs hf ho _

theorem servedOpen (hs : P s) (src num : Byte) (arg : Nat) : Q (servedOpen src num arg s) := by
  unfold Machine.servedOpen
  split
  · exact h.served_of hs _ _ _ fun hf f => h.openClear hs hf f
  · exact h.servedCopy hs src num
  · exact h.served_same hs _ _ _ rfl

/-- The fourteen requests and any other code (R165, section 9.1). -/
theorem execute (hs : P s) (src num code : Byte) (body : List Byte) : Q (execute src num code body s) := by
  unfold Machine.execute
  split
  · exact h.served_of hs _ _ _ fun hf f => h.loadLine hs hf _ f
  · next hc =>
    rw [show code = 2#8 from BitVec.eq_of_toNat_eq hc]
    exact h.modeSet hs src num _
  · exact h.served_of hs _ _ _ fun hf f => h.setAmbient hs hf _ f
  · exact h.servedOpen hs src num _
  · exact h.served_of hs _ _ _ fun hf f => h.writeEntry hs hf _ f
  · exact h.served_of hs _ _ _ fun hf f => h.writeTrims hs hf _ f
  · exact h.served_of hs _ _ _ fun hf f => h.closeBank hs hf f
  · exact h.served_of hs _ _ _ fun hf f => h.swapBanks hs hf f
  · exact h.served_same hs _ _ _ (readTable_state _ _ s)
  · exact h.served_of hs _ _ _ fun hf f => h.armRestore hs hf _ f
  · exact h.served_same hs _ _ _ rfl
  · exact h.served_same hs _ _ _ rfl
  · next hc =>
    rw [show code = 13#8 from BitVec.eq_of_toNat_eq hc]
    exact h.countersByOption hs src num _
  · exact h.served_of hs _ _ _ fun hf f => h.lineReset hs hf f
  · exact h.served_same hs _ _ _ rfl

theorem takeCode (hs : P s) (src num code : Byte) (body : List Byte) : Q (takeCode src num code body s) := by
  unfold Machine.takeCode
  split
  · exact h.served_same hs _ _ _ rfl
  · split
    · exact h.execute hs src num code body
    · exact h.served_same hs _ _ _ rfl

theorem takeRequest (hs : P s) (src : Byte) (p : List Byte) : Q (takeRequest src p s) := by
  unfold Machine.takeRequest
  split
  · exact h.served_same hs _ _ _ rfl
  · exact h.served_same hs _ _ _ rfl
  · exact h.takeCode hs src _ _ _

end RequestsLead

/-! ## Commands -/

/-- What each command's operation leads from P to Q, the link's own primitives keeping Q. -/
structure CommandsLead (P Q : State → Prop) : Prop extends RequestsLead P Q where
  link : LinkKept Q
  weaken : ∀ {s}, P s → Q s
  queue : ∀ {s}, P s → ∀ q, P { s with pending := q }
  portU : ∀ {s}, P s → ∀ u, P { s with portU := u }
  bump : ∀ {s}, P s → ∀ c, P (s.bump c)
  hardwareReset : ∀ {s}, P s → ∀ a b trip, Q
    { State.reset with
      travel := TravelUnit.reset a b
      inputs := { State.reset.inputs with trip := trip }
      pending := s.pending }
  scan : ∀ {s}, P s → ∀ p, Q (takeScan p s)
  void : ∀ {s}, P s → ∀ p, Q (takeVoid p s)
  encoder : ∀ {s}, P s → ∀ a b, Q (encoderChange a b s)
  speedWindow : ∀ {s}, P s → Q (endSpeedWindow s)
  dwell : ∀ {s}, P s → Q (setDwell s)
  pulse : ∀ {s}, P s → ∀ k n, Q (pulseRotor k n s)
  silence : ∀ {s}, P s → ∀ k, Q (silenceRotor k s)
  eye : ∀ {s}, P s → ∀ k d, Q (eyeChange k d s)
  trip : ∀ {s}, P s → ∀ a, Q (tripLevel a s)
  copyItem : ∀ {s}, P s → Q (moveNextItem s)

namespace CommandsLead

variable {P Q : State → Prop} (h : CommandsLead P Q) {s t : State}
include h

/-- Routing on Port U, line by line of R9. -/
theorem routeU (hs : P s) (f : Frame) : Q (routeU f s) := by
  have forbidden : Q (s.bump .forbiddenKind) := h.link.bump (h.weaken hs) _
  unfold Machine.routeU
  split
  · exact forbidden
  · split
    · unfold routeLog
      split
      · exact h.link.offerCopy (h.scan hs _) f
      · exact h.link.offerCopy (h.void hs _) f
    · split
      · unfold routeByDest
        split
        · split
          · exact h.takeRequest hs _ _
          · exact forbidden
        · split
          · split
            · exact forbidden
            · exact h.link.offerDown (h.weaken hs) f _
          · exact h.link.offerDown (h.weaken hs) f _
      · exact forbidden

theorem byteU (hs : P s) (b : Byte) : Q (byteU b s) := by
  have counted : P (countReport .uFramesOk (s.portU.rx.take s.now b).2
      { s with portU := { s.portU with rx := (s.portU.rx.take s.now b).1 } }) := by
    unfold countReport State.bump?
    split
    · exact h.bump (h.portU hs _) _
    · exact h.portU hs _
  unfold Machine.byteU
  dsimp only
  split
  · exact h.routeU counted _
  · exact h.weaken counted

/-- Every command leads from P to Q: the request rows by Request Service, the others by their one operation. -/
theorem exec (hs : P s) (c : Instr) (he : exec c s = .next t) : Q t := by
  have kept : Q s := h.weaken hs
  cases c <;> cases he
  case hardwareReset a b trip => exact h.hardwareReset hs a b trip
  case receiveByte port b =>
    cases port with
    | u => exact h.byteU hs b
    | d => exact h.link.byteD kept b
  case byteGapTimeout port =>
    cases port with
    | u => exact h.link.gapU kept
    | d => exact h.link.gapD kept
  case forbiddenKind | forwardDownstream | logScan | logVoid => exact h.routeU hs _
  case upstreamArbitration => exact h.link.arbitrate kept
  case portDFrameEnd => exact h.link.endFrameD kept
  case requestOverflow | badForm => exact h.takeRequest hs _ _
  case unknownRequest | lineLoad | tableEntry | tableTrim => exact h.takeCode hs _ _ _ _
  case modeSetRun => exact h.served_of hs _ _ _ fun hf f => h.modeRun hs hf f
  case modeSetFinish => exact h.served_of hs _ _ _ fun hf f => h.modeFinish hs hf f
  case modeSetStop => exact h.served_of hs _ _ _ fun hf f => h.modeStop hs hf f
  case modeSetClear => exact h.served_of hs _ _ _ fun hf f => h.modeClear hs hf f
  case modeSetBadArgument => exact h.modeSet hs _ _ _
  case ambientSet => exact h.served_of hs _ _ _ fun hf f => h.setAmbient hs hf _ f
  case tableOpenClear => exact h.served_of hs _ _ _ fun hf f => h.openClear hs hf f
  case tableOpenCopy => exact h.servedCopy hs _ _
  case tableOpenBadArgument => exact h.servedOpen hs _ _ _
  case tableClose => exact h.served_of hs _ _ _ fun hf f => h.closeBank hs hf f
  case tableSwap => exact h.served_of hs _ _ _ fun hf f => h.swapBanks hs hf f
  case tableRead => exact h.served_same hs _ _ _ (readTable_state _ _ s)
  case armRestore => exact h.served_of hs _ _ _ fun hf f => h.armRestore hs hf _ f
  case statusRead | logList | countersRead => exact h.served_same hs _ _ _ rfl
  case countersReadClear => exact h.served_of hs _ _ _ fun hf f => h.clearCounters hs hf f
  case countersReadBadOption => exact h.countersByOption hs _ _ _
  case lineReset => exact h.served_of hs _ _ _ fun hf f => h.lineReset hs hf f
  case encoderTransition a b => exact h.encoder hs a b
  case speedWindowEnd => exact h.speedWindow hs
  case dwellSet => exact h.dwell hs
  case rotorPulse k n => exact h.pulse hs k n
  case rotorTimeout k => exact h.silence hs k
  case eyeEdge k d => exact h.eye hs k d
  case tripInputChange a => exact h.trip hs a
  case copyItem => exact h.copyItem hs
  case cycleStart due => exact h.link.startDue kept due
  case reportTimeout => exact h.link.reportTimeoutRuns kept
  case reportLimit => exact h.link.reportLimitReached kept
  case armReport | replyFromStation | unsolicited => exact h.link.wholeFrameD kept _
  case replyTimeout => exact h.link.replyTimeoutRuns kept
  case replyLimit => exact h.link.replyLimitReached kept

/-- Every step leads from P to Q. -/
theorem step (hs : P s) (he : step s = .next t) : Q t := by
  unfold Machine.step at he
  split at he
  · cases he; exact h.link.clock (h.weaken hs) _
  · exact h.exec (h.queue hs _) _ he

end CommandsLead

end Sys2Proof.Machine
end

section
/-! PROOFS. The Log Tracker, packaged once: a predicate that survives a harmless change of one record, a station's
entry into each of its states and a removal survives every re-evaluation of the queue (R57 to R59), every change of a
rotor's under-speed flag, and the joins. -/

namespace Sys2Proof.Machine

/-! ## Records -/

/-- A record confirmed and tracked at a station: what ENGAGED asks of its current log (R117). -/
def LogRecord.held (r : LogRecord) (k : Station) : Prop := (r.at k).confirmed ≠ .no ∧ (r.at k).tracked = true

/-- Two records that are one log at one butt count: number, origin, tag, bank and B (R48). -/
structure LogRecord.SameLog (r x : LogRecord) : Prop where
  id : x.id = r.id
  origin : x.origin = r.origin
  tag : x.tag = r.tag
  bank : x.bank = r.bank
  b : x.b = r.b

theorem LogRecord.at_setAt (r : LogRecord) (j k : Station) (x : Standing) :
    (r.setAt k x).at j = if j = k then x else r.at j := by
  cases j <;> cases k <;> rfl

theorem LogRecord.setAt_sameLog (r : LogRecord) (k : Station) (x : Standing) : r.SameLog (r.setAt k x) := by
  cases k <;> exact ⟨rfl, rfl, rfl, rfl, rfl⟩

/-- A station's standing replaced by one that is held if the old one was keeps the record held. -/
theorem LogRecord.held_setAt {r : LogRecord} {k : Station} {x : Standing}
    (hx : (r.at k).confirmed ≠ .no ∧ (r.at k).tracked = true → x.confirmed ≠ .no ∧ x.tracked = true) {j : Station}
    (h : r.held j) : (r.setAt k x).held j := by
  unfold LogRecord.held at *
  rw [LogRecord.at_setAt]
  split
  · next hj => exact hx (hj ▸ h)
  · exact h

theorem predicted_sameLog (forced p : Bool) (k : Station) (r : LogRecord) : r.SameLog (predicted forced p k r) := by
  unfold predicted
  dsimp only
  split <;> cases k <;> exact ⟨rfl, rfl, rfl, rfl, rfl⟩

theorem predicted_at (forced p : Bool) (j k : Station) (r : LogRecord) :
    (predicted forced p k r).at j = if j = k then { r.at k with confirmed := .byPrediction } else r.at j := by
  rw [← LogRecord.at_setAt]
  unfold predicted
  dsimp only
  split
  · cases j <;> rfl
  · rfl

theorem predicted_held {forced p : Bool} {j k : Station} {r : LogRecord} (h : r.held j) :
    (predicted forced p k r).held j := by
  unfold LogRecord.held at *
  rw [predicted_at]
  split
  · next hj => exact ⟨Confirmed.noConfusion, (hj ▸ h).2⟩
  · exact h

/-! ## The log queue -/

theorem successor?_mem {id : Nat} {q : List LogRecord} {y : LogRecord} (h : successor? id q = some y) : y ∈ q := by
  induction q with
  | nil => cases h
  | cons r q ih =>
    unfold successor? at h
    split at h
    · exact List.mem_cons_of_mem _ (List.mem_of_mem_head? h)
    · exact List.mem_cons_of_mem _ (ih h)

theorem mem_updateRecord {id : Nat} {f : LogRecord → LogRecord} {q : List LogRecord} {r : LogRecord} (h : r ∈ q) :
    (if r.id == id then f r else r) ∈ updateRecord id f q :=
  List.mem_map_of_mem h

/-- The record of a number after that record's update. -/
theorem State.record?_update {s : State} {id : Nat} {f : LogRecord → LogRecord} (hf : ∀ r, (f r).id = r.id) :
    (s.update id f).record? id = (s.record? id).map f := by
  unfold State.record?
  rw [State.update_tracker_queue]
  induction s.tracker.queue with
  | nil => rfl
  | cons r q ih =>
    simp only [updateRecord, List.map_cons, List.find?_cons] at ih ⊢
    by_cases h : r.id = id
    · simp [h, hf]
    · simpa only [beq_eq_false_iff_ne.2 h, Bool.false_eq_true, if_false] using ih

/-! ## The primitives -/

/-- The primitives of the Log Tracker and the station machines, each kept by a predicate. -/
structure TrackKept (P : State → Prop) : Prop where
  count : ∀ {s}, P s → ∀ c, P (s.bump c)
  update : ∀ {s}, P s → ∀ {id f}, (∀ r : LogRecord, r.SameLog (f r)) →
    (∀ r, s.record? id = some r → ∀ k, r.held k → (f r).held k) → P (s.update id f)
  idle : ∀ {s}, P s → ∀ k, P (enterIdle k s)
  engage : ∀ {s}, P s → ∀ {k id x}, s.follows k = true → x ∈ s.tracker.queue → x.id = id → x.held k →
    P (s.setStation k (.engaged id))
  lock : ∀ {s}, P s → ∀ {k}, s.follows k = true → P (s.setStation k .lockout)
  remove : ∀ {s}, P s → ∀ l id why, P (removeRecord l id why s)

namespace TrackKept

variable {P : State → Prop} (h : TrackKept P) {s : State}
include h

/-- A change of a record that leaves its standings alone. -/
theorem change (hs : P s) {id : Nat} {f : LogRecord → LogRecord} (hf : ∀ r : LogRecord, r.SameLog (f r))
    (ha : ∀ r k, (f r).at k = r.at k) : P (s.update id f) :=
  h.update hs hf fun r _ k hk => by
    unfold LogRecord.held at *
    rwa [ha]

theorem rejoin (hs : P s) (l : Line) (fresh : Bool) (id : Nat) : P (rejoin l fresh id s) :=
  h.change hs (fun _ => ⟨rfl, rfl, rfl, rfl, rfl⟩) fun _ k => by cases k <;> rfl

theorem rejoinSuccessor (hs : P s) (l : Line) (id : Nat) : P (rejoinSuccessor l id s) := by
  unfold Machine.rejoinSuccessor
  split
  · exact h.rejoin hs l _ _
  · exact hs

/-! ## The station machines -/

theorem examineLockout (hs : P s) (k : Station) : P (examineLockout k s) := by
  unfold Machine.examineLockout
  split
  · exact h.idle hs k
  · exact hs

theorem buttReaches (hs : P s) {k : Station} {r : LogRecord}
    (hx : ∃ x ∈ s.tracker.queue, x.id = r.id ∧ (r.held k → x.held k)) : P (buttReaches k r s) := by
  unfold Machine.buttReaches
  split
  · next hc =>
    simp only [Bool.and_eq_true, bne_iff_ne, ne_eq] at hc
    obtain ⟨⟨⟨⟨follows, -⟩, confirmed⟩, tracked⟩, -⟩ := hc
    obtain ⟨x, queued, number, held⟩ := hx
    exact h.engage hs follows queued number (held ⟨confirmed, tracked⟩)
  · exact hs

theorem passOn (hs : P s) {k : Station} (follows : s.follows k = true) (id : Nat) : P (passOn k id s) := by
  unfold Machine.passOn
  split
  · next y hy =>
    split
    · next hc =>
      simp only [Bool.and_eq_true, bne_iff_ne, ne_eq] at hc
      exact h.engage hs follows (successor?_mem hy) rfl ⟨hc.1.2, hc.2⟩
    · exact h.idle hs k
  · exact h.idle hs k

theorem tailPasses (hs : P s) (k : Station) (id : Nat) : P (tailPasses k id s) := by
  unfold Machine.tailPasses
  split
  · next follows =>
    split
    · split
      · exact h.passOn hs follows id
      · exact hs
    · exact h.examineLockout hs k
    · exact hs
  · exact hs

theorem backsOut (hs : P s) (k : Station) (id : Nat) : P (backsOut k id s) := by
  unfold Machine.backsOut
  split
  · split
    · split
      · exact h.idle hs k
      · exact hs
    · exact h.examineLockout hs k
    · exact hs
  · exact hs

theorem contactEvents (hs : P s) {k : Station} {r : LogRecord}
    (hx : ∃ x ∈ s.tracker.queue, x.id = r.id ∧ (r.held k → x.held k)) (was now : ContactPos) :
    P (contactEvents k r was now s).1 := by
  unfold Machine.contactEvents
  split
  · exact h.buttReaches hs hx
  · exact h.tailPasses hs k _
  · exact h.backsOut hs k _
  · exact h.tailPasses (h.buttReaches hs hx) k _
  · exact h.backsOut hs k _
  · exact hs

/-! ## Positions -/

/-- A closing window confirms, or marks a loss at a station where the record is not confirmed (R66, R67). -/
theorem closeWindow (hs : P s) {k : Station} {id : Nat}
    (unconfirmed : ∀ r, s.record? id = some r → (r.at k).confirmed = .no) : P (closeWindow k id s).1 := by
  unfold Machine.closeWindow
  dsimp only
  split
  · exact h.update hs (predicted_sameLog _ _ k) fun _ _ _ => predicted_held
  · split
    · exact h.update hs (fun r => r.setAt_sameLog k _) fun r hr j =>
        LogRecord.held_setAt fun held => absurd (unconfirmed r hr) held.1
    · exact hs

theorem windowStep (hs : P s) (l : Line) (k : Station) (id : Nat) : P (windowStep l k id s).1 := by
  unfold Machine.windowStep
  split
  · exact hs
  · next r hr =>
    have moved : P (s.update id (fun x => x.setAt k { x.at k with window := windowPos l.counts k (s.position r) })) :=
      h.update hs (fun x => x.setAt_sameLog k _) fun _ _ _ => LogRecord.held_setAt (by exact fun held => held)
    dsimp only
    split
    · next hc =>
      refine h.closeWindow moved fun x hx => ?_
      rw [State.record?_update (fun x => LogRecord.setAt_id x k _), hr] at hx
      obtain rfl := Option.some.inj hx
      simp only [windowCloses, Bool.and_eq_true, beq_iff_eq] at hc
      rw [LogRecord.setAt_at]
      exact hc.1.2
    · exact moved

theorem contactStep (hs : P s) (l : Line) (k : Station) (id : Nat) : P (contactStep l k id s).1 := by
  unfold Machine.contactStep
  split
  · exact hs
  · next r hr =>
    obtain ⟨queued, number⟩ := State.record?_some hr
    have moved : P (s.update id (fun x =>
        x.setAt k { x.at k with contact := contactPos l.counts k r.length (s.position r) })) :=
      h.update hs (fun x => x.setAt_sameLog k _) fun _ _ _ => LogRecord.held_setAt (by exact fun held => held)
    dsimp only
    split
    · refine h.contactEvents moved ⟨_, mem_updateRecord queued, ?_, fun held => ?_⟩ _ _
      · simp [number]
      · rw [if_pos (by simp [number])]
        exact LogRecord.held_setAt (by exact fun held => held) held
    · exact moved

theorem stationStep {a : State × Fate} (hs : P a.1) (l : Line) (id : Nat) (k : Station) :
    P (stationStep l id k a).1 := by
  unfold Machine.stationStep
  split
  · dsimp only
    split
    · exact h.contactStep (h.windowStep hs l k id) l k id
    · exact h.windowStep hs l k id
  · exact hs

theorem limitLength (hs : P s) (l : Line) (id : Nat) : P (limitLength l id s) := by
  unfold Machine.limitLength
  split
  · exact hs
  · split
    · refine h.rejoinSuccessor (h.change hs ?_ ?_) l id
      · exact fun _ => ⟨rfl, rfl, rfl, rfl, rfl⟩
      · exact fun _ k => by cases k <;> rfl
    · exact hs

theorem releasePending (hs : P s) (l : Line) (id : Nat) : P (releasePending l id s) := by
  unfold Machine.releasePending
  split
  · split
    · exact h.remove hs _ _ _
    · exact hs
  · exact hs

theorem settleFate {a : State × Fate} (hs : P a.1) (l : Line) (id : Nat) : P (settleFate l id a) := by
  unfold Machine.settleFate
  split
  · exact h.remove hs _ _ _
  · exact h.remove hs _ _ _
  · exact h.releasePending hs l id

theorem reevaluate (hs : P s) (l : Line) (id : Nat) : P (reevaluate l s id) := by
  have steps : ∀ (ks : List Station) (a : State × Fate), P a.1 →
      P (ks.foldl (fun a k => Machine.stationStep l id k a) a).1 := by
    intro ks
    induction ks with
    | nil => exact fun _ ha => ha
    | cons k ks ih => exact fun a ha => ih _ (h.stationStep ha l id k)
  exact h.settleFate (steps _ (_, .stays) (h.limitLength hs l id)) l id

theorem travelChanged (hs : P s) : P (travelChanged s) := by
  unfold Machine.travelChanged
  split
  · exact hs
  · next l _ =>
    have records : ∀ (ids : List Nat) (s : State), P s → P (ids.foldl (Machine.reevaluate l) s) := by
      intro ids
      induction ids with
      | nil => exact fun _ hs => hs
      | cons i ids ih => exact fun s hs => ih _ (h.reevaluate hs l i)
    exact records _ s hs

theorem measure (hs : P s) (l : Line) (k : Station) (n : Int) (id : Nat) : P (measure l k n id s) := by
  refine h.reevaluate (h.rejoinSuccessor (h.update hs (fun r => ?_) fun r _ j => ?_) l id) l id
  · cases k <;> exact ⟨rfl, rfl, rfl, rfl, rfl⟩
  · cases j <;> cases k <;> exact fun held => held

theorem fallingEdge (hs : P s) (k : Station) : P (fallingEdge k s) := by
  unfold Machine.fallingEdge
  split
  · exact hs
  · split
    · split
      · dsimp only
        split
        · exact h.measure hs _ k _ _
        · exact hs
      · exact hs
    · exact hs

/-- The candidate confirmed by eye: a predicate that survives its rebase, where it is made, survives the whole (R60). -/
theorem confirmByEye (hs : P s) (l : Line) (k : Station) (id : Nat)
    (rebased : keepsOrder id (travelBack s.travel.t (l.counts.eye.get k)) s.tracker.queue = true →
      P ((s.update id (fun r => r.setAt k { r.at k with confirmed := .byEye })).update id
        (fun r => { r with b := travelBack s.travel.t (l.counts.eye.get k) }))) : P (confirmByEye l k id s) := by
  unfold Machine.confirmByEye
  dsimp only
  split
  · next kept =>
    have evaluated := h.reevaluate (rebased kept) l id
    split
    · exact h.rejoinSuccessor (h.rejoin evaluated l _ id) l id
    · exact evaluated
  · refine h.update hs (fun r => r.setAt_sameLog k _) fun r _ j => LogRecord.held_setAt fun held => ?_
    exact ⟨Confirmed.noConfusion, held.2⟩

/-! ## Rotors and the entry into RUN -/

theorem underChanged (hs : P s) (k : Station) (was : Bool) : P (underChanged k was s) := by
  unfold Machine.underChanged
  dsimp only
  split
  · unfold underSet
    split
    · next follows =>
      split
      · exact h.releasePending (h.lock hs follows) _ _
      · exact h.lock hs follows
    · exact hs
  · split
    · exact h.examineLockout hs k
    · exact hs

theorem stationAtRun (hs : P s) (k : Station) : P (stationAtRun k s) := by
  unfold Machine.stationAtRun
  split
  · next hc =>
    exact h.lock hs (Bool.and_eq_true_iff.1 hc).1
  · exact hs

end TrackKept

end Sys2Proof.Machine
end

section
/-! PROOFS. The field lines, packaged once: a predicate kept by the Log Tracker's primitives that does not read the
Travel Unit, the inputs or the faulted marks is kept by every command of Chapter 3, eye edges apart, for which it must
survive a rebase and a synthetic record. -/

namespace Sys2Proof.Machine

/-- Blindness to the Travel Unit, the inputs, the clock and the faulted marks, and the survival of a trip. -/
structure FieldKept (P : State → Prop) : Prop extends TrackKept P where
  clock : ∀ {s}, P s → ∀ n, P { s with now := n }
  travel : ∀ {s}, P s → ∀ u, P { s with travel := u }
  inputs : ∀ {s}, P s → ∀ i, P { s with inputs := i }
  faulted : ∀ {s}, P s → ∀ x, P { s with tracker := { s.tracker with faulted := x } }
  trip : ∀ {s}, P s → ∀ c, c ≠ .none → P (trip c s)

namespace FieldKept

variable {P : State → Prop} (h : FieldKept P) {s : State}
include h

theorem markFaulted (hs : P s) (k : Station) (f : Bool) : P (markFaulted k f s) := by
  unfold Machine.markFaulted
  split
  · split
    · exact h.faulted hs _
    · exact hs
  · exact hs

theorem checkEye (hs : P s) (k : Station) : P (checkEye k s) := by
  unfold Machine.checkEye
  split
  · exact hs
  · split
    · exact h.markFaulted (h.inputs hs _) k true
    · exact hs

theorem checkEyes (hs : P s) : P (checkEyes s) := h.checkEye (h.checkEye hs .one) .two

theorem legalTransition (hs : P s) (forward : Bool) : P (legalTransition forward s) := by
  unfold Machine.legalTransition
  split
  · exact hs
  · exact h.checkEyes (h.travelChanged (h.travel hs _))

theorem encoderChange (hs : P s) (a b : Bool) : P (encoderChange a b s) := by
  have levels : P { s with travel := { s.travel with lineA := a, lineB := b } } := h.travel hs _
  unfold Machine.encoderChange
  dsimp only
  split
  · exact levels
  · exact h.legalTransition levels true
  · exact h.legalTransition levels false
  · unfold illegalTransition
    dsimp only
    split
    · exact h.trip (h.travel levels _) _ nofun
    · exact h.travel levels _

theorem endSpeedWindow (hs : P s) : P (endSpeedWindow s) := h.travel (h.clock hs _) _

theorem setDwell (hs : P s) : P (setDwell s) := by
  unfold Machine.setDwell
  split
  · exact hs
  · exact h.travel (h.clock hs _) _

theorem setRotor (hs : P s) (k : Station) (r : Rotor) : P (setRotor k r s) := h.underChanged (h.inputs hs _) k _

theorem silenceRotor (hs : P s) (k : Station) : P (silenceRotor k s) := by
  unfold Machine.silenceRotor
  split
  · exact hs
  · exact h.setRotor (h.clock hs _) k _

theorem pulseRotor (hs : P s) (k : Station) (edge : Nat) : P (pulseRotor k edge s) := by
  unfold Machine.pulseRotor
  split
  · exact h.clock (h.inputs hs _) _
  · split
    · exact hs
    · split
      · exact h.clock (h.inputs (h.silenceRotor hs k) _) _
      · exact h.setRotor (h.clock hs _) k _

theorem tripLevel (hs : P s) (a : Bool) : P (tripLevel a s) := by
  unfold Machine.tripLevel
  split
  · exact hs
  · dsimp only
    split
    · exact h.trip (h.inputs hs _) _ nofun
    · exact h.inputs hs _

theorem eyeFalls (hs : P s) (k : Station) : P (eyeFalls k s) := by
  unfold Machine.eyeFalls
  dsimp only
  split
  · exact h.markFaulted (h.inputs hs _) k false
  · exact h.fallingEdge (h.inputs hs _) k

omit h in
/-- What a rising edge asks of a predicate beside the primitives: the rebase of the candidate (R60) and the synthetic
record of an unseen log (R62, R63). -/
structure RisesKept (P : State → Prop) (s : State) (k : Station) : Prop where
  rebased : ∀ l r, s.mode.line = some l → s.tracker.queue.find? (candidate k) = some r →
    keepsOrder r.id (travelBack s.travel.t (l.counts.eye.get k)) s.tracker.queue = true →
      P ((s.update r.id (fun x => x.setAt k { x.at k with confirmed := .byEye })).update r.id
        (fun x => { x with b := travelBack s.travel.t (l.counts.eye.get k) }))
  added : ∀ l, s.mode.line = some l → s.mode.mode = .run →
    (∀ r ∈ s.tracker.queue, r.b ≠ travelBack s.travel.t (l.counts.eye.get k)) →
      s.tracker.queue.length < Config.maxRecords →
        P (addSynthetic l (syntheticRecord s l k (travelBack s.travel.t (l.counts.eye.get k))) s)

theorem risingEdge (hs : P s) {k : Station} (hk : RisesKept P s k) : P (risingEdge k s) := by
  unfold Machine.risingEdge
  split
  · exact hs
  · next l hl =>
    split
    · split
      · next r hr => exact h.confirmByEye hs l k r.id (hk.rebased l r hl hr)
      · split
        · exact hs
        · unfold unscannedLog
          dsimp only
          split
          · exact hs
          · next hm =>
            split
            · exact hs
            · next hb =>
              split
              · exact h.count hs _
              · next hn =>
                refine hk.added l hl (by simpa using hm) (fun r hr he => hb ?_) (Nat.not_le.1 hn)
                exact List.any_eq_true.2 ⟨r, hr, by simpa using he⟩
    · exact hs

theorem eyeChange (hs : P s) (k : Station) (dark : Bool)
    (hk : RisesKept P (s.onEye k (fun e => { e with dark := true, darkSince := some s.travel.t })) k) :
    P (eyeChange k dark s) := by
  unfold Machine.eyeChange
  split
  · exact hs
  · split
    · unfold eyeRises
      dsimp only
      split
      · exact h.inputs hs _
      · exact h.risingEdge (h.inputs hs _) hk
    · exact h.eyeFalls hs k

end FieldKept

end Sys2Proof.Machine
end

section
/-! PROOFS. What each block's answer to a request leaves (R171): the cases of its state, said once. -/

namespace Sys2Proof.Machine

/-- Only the Table Store differs. -/
def TablesOnly (s t : State) : Prop := t = { s with tables := t.tables }

theorem openClear_tablesOnly (s : State) : TablesOnly s (openClear s).state := by
  unfold openClear
  dsimp only
  split <;> rfl

theorem writeEntry_tablesOnly (p : List Byte) (s : State) : TablesOnly s (writeEntry p s).state := by
  unfold writeEntry
  dsimp only
  split
  · split <;> rfl
  · rfl
  · rfl

theorem writeTrims_tablesOnly (p : List Byte) (s : State) : TablesOnly s (writeTrims p s).state := by
  unfold writeTrims
  dsimp only
  split
  · split <;> rfl
  · rfl
  · rfl

theorem closeBank_tablesOnly (s : State) : TablesOnly s (closeBank s).state := by
  unfold closeBank
  dsimp only
  split
  · split <;> rfl
  · rfl
  · rfl

theorem swapBanks_tablesOnly (s : State) : TablesOnly s (swapBanks s).state := by
  unfold swapBanks
  split <;> rfl

/-- TABLE_OPEN copy begun (R80, R82): from the marked bank into its target, which is neither COPYING nor RETIRING. -/
theorem openCopy_begun {s t : State} (h : openCopy s = (t, none)) :
    ∃ src, s.tables.mark = some src
      ∧ (s.tables.bank s.tables.target).state ≠ .copying ∧ (s.tables.bank s.tables.target).state ≠ .retiring
      ∧ t = { s with tables :=
          { s.tables.setBank s.tables.target ((s.tables.bank s.tables.target).clear .copying) with
            copy := some { source := src, dest := s.tables.target, start := s.now, item := 0 } } } := by
  unfold openCopy at h
  dsimp only at h
  split at h
  · cases h
  · cases h
  · cases h
  · next src mark notCopying notRetiring => exact ⟨src, mark, notCopying, notRetiring, (Prod.mk.inj h).1.symm⟩

/-- ARM_RESTORE leaves the state or puts one channel in the place of another (R139): the same one, an ISOLATED one
restored, or an ISOLATED one with its restore pending. -/
theorem armRestore_cases (ch : Byte) (s : State) :
    (armRestore ch s).state = s ∨ ∃ c d, s.channel? ch.toNat = some c
      ∧ (armRestore ch s).state = s.onChannel ch.toNat (fun _ => d)
      ∧ (d = c ∨ d = c.restore ∨ c.state = .isolated ∧ d = { c with pendingRestore := true }) := by
  unfold armRestore
  split
  · exact .inl rfl
  · next c hc =>
    have there : s.channel? ch.toNat = some c := by
      split at hc
      · cases hc
      · exact hc
    unfold restoreChannel
    split
    · exact .inr ⟨c, c, there, rfl, .inl rfl⟩
    · split
      · exact .inr ⟨c, c, there, rfl, .inl rfl⟩
      · exact .inr ⟨c, c, there, rfl, .inl rfl⟩
      · next hi =>
        unfold restoreIsolated
        split
        · exact .inr ⟨c, _, there, rfl, .inr (.inl rfl)⟩
        · exact .inr ⟨c, _, there, rfl, .inr (.inr ⟨hi, rfl⟩)⟩

/-- Only the channels differ. -/
def ChannelsOnly (s t : State) : Prop := t = { s with arms := { s.arms with channels := t.arms.channels } }

theorem armRestore_channelsOnly (ch : Byte) (s : State) : ChannelsOnly s (armRestore ch s).state := by
  obtain same | ⟨c, d, -, placed, -⟩ := armRestore_cases ch s
  · rw [same]; rfl
  · rw [placed]; rfl

/-- MODE_SET RUN is refused or enters RUN from STANDBY with an ACTIVE bank (R17). -/
theorem modeRun_cases (s : State) :
    (modeRun s).state = s ∨ s.mode.mode = .standby ∧ s.tables.mark.isSome = true ∧ (modeRun s).state = enterRun s := by
  unfold modeRun
  split
  · next hm =>
    split
    · next hk => exact .inr ⟨hm, hk, rfl⟩
    · exact .inl rfl
  · exact .inl rfl

/-- MODE_SET FINISH is refused or begins FINISHING in RUN (R17, R19). -/
theorem modeFinish_cases (s : State) :
    (modeFinish s).state = s
      ∨ s.mode.mode = .run ∧ (modeFinish s).state = endFinishing (s.setMode .finishing) := by
  unfold modeFinish
  split
  · next hm => exact .inr ⟨hm, rfl⟩
  · exact .inl rfl

/-- MODE_SET STOP is refused or flushes into STANDBY (R17, R22). -/
theorem modeStop_cases (s : State) :
    (modeStop s).state = s
      ∨ (s.mode.mode = .run ∨ s.mode.mode = .finishing) ∧ (modeStop s).state = flush (s.setMode .standby) := by
  unfold modeStop
  split
  · next hm => exact .inr ⟨.inl hm, rfl⟩
  · next hm => exact .inr ⟨.inr hm, rfl⟩
  · exact .inl rfl

/-- MODE_SET CLEAR is refused or leaves TRIPPED (R17, R18). -/
theorem modeClear_cases (s : State) :
    (modeClear s).state = s ∨ s.mode.mode = .tripped ∧ (modeClear s).state = leaveTripped s := by
  unfold modeClear
  split
  · next hm =>
    split
    · exact .inl rfl
    · split
      · exact .inl rfl
      · exact .inr ⟨hm, rfl⟩
  · exact .inl rfl

/-- LINE_LOAD is refused or accepted, in UNSET or STANDBY with every condition met (R24). -/
theorem loadLine_cases (p : List Byte) (s : State) :
    (loadLine p s).state = s
      ∨ (s.mode.mode = .unset ∨ s.mode.mode = .standby) ∧ firstFault (lineConditions (lineImage p)) = none
        ∧ (loadLine p s).state = acceptLine (lineImage p) s := by
  unfold loadLine
  split
  · exact .inl rfl
  · exact .inl rfl
  · exact .inl rfl
  · next run finishing tripped =>
    split
    · exact .inl rfl
    · next hf =>
      refine .inr ⟨?_, hf, rfl⟩
      cases hm : s.mode.mode <;> simp_all

/-! ## The acceptance of a line record, stage by stage (R25 to R27) -/

/-- The mode of an acceptance: STANDBY, or TRIPPED with the queue flushed (R26). -/
theorem acceptMode_cases (s : State) :
    acceptMode s = { s with mode := { s.mode with mode := .standby, cause := .none } }
      ∨ ∃ c, c ≠ .none
        ∧ acceptMode s = flush { s with mode := { s.mode with mode := .tripped, cause := c } } := by
  unfold acceptMode
  dsimp only
  split
  · exact .inr ⟨.tripInput, nofun, rfl⟩
  · split
    · exact .inr ⟨.encoder, nofun, rfl⟩
    · exact .inl rfl

/-- Beside the mode, an acceptance's mode stage flushes at most. -/
theorem acceptMode_line (s : State) : (acceptMode s).mode.line = s.mode.line := by
  obtain same | ⟨c, -, flushed⟩ := acceptMode_cases s
  · rw [same]
  · rw [flushed, (flush_logFrame _).line]

/-- The blocks an acceptance brings up to date, before the eyes are checked (R27, R34, R36, R164). -/
def acceptBlocks (l : Line) (s : State) : State :=
  { s with
    arms := { s.arms with channels :=
      { one := loadChannels l .one s.arms.channels.one, two := loadChannels l .two s.arms.channels.two } }
    cycle := { s.cycle with nodes := { one := Node.reset, two := Node.reset } }
    travel := s.travel.acceptLine l s.now }

theorem acceptInputs_eq (l : Line) (s : State) : acceptInputs l s = syncFaulted (checkEyes (acceptBlocks l s)) := rfl

/-- The address an acceptance gives the controller (R8, R23). -/
def State.addressed (s : State) (a : Byte) : State := { s with switch := { s.switch with ownAddr := a } }

/-- An acceptance stage by stage: the record and the mode, the blocks and the eyes, the address, the cycle. -/
theorem acceptLine_eq (r : LineRecord) (s : State) :
    acceptLine r s =
      (let l : Line := { record := r, counts := lineCounts r }
       let t := (acceptInputs l (acceptMode { s with mode := { s.mode with line := some l } })).addressed
         (BitVec.ofNat 8 r.address)
       if s.mode.mode = .unset then startCycle t else cutCycle t) := by
  unfold acceptLine
  cases s.mode.mode <;> rfl

/-- The blocked-eye check touches the eyes and the faulted marks (R43, R65). -/
theorem checkEye_eq (k : Station) (s : State) :
    ∃ eyes marks, checkEye k s =
      { s with inputs := { s.inputs with eyes := eyes }, tracker := { s.tracker with faulted := marks } } := by
  unfold checkEye
  split
  · exact ⟨_, _, rfl⟩
  · split
    · unfold markFaulted
      split
      · split <;> exact ⟨_, _, rfl⟩
      · exact ⟨_, _, rfl⟩
    · exact ⟨_, _, rfl⟩

theorem checkEyes_eq (s : State) :
    ∃ eyes marks, checkEyes s =
      { s with inputs := { s.inputs with eyes := eyes }, tracker := { s.tracker with faulted := marks } } := by
  obtain ⟨e, m, first⟩ := checkEye_eq .one s
  obtain ⟨e', m', second⟩ := checkEye_eq .two (checkEye .one s)
  exact ⟨e', m', by rw [checkEyes, second, first]⟩

theorem acceptInputs_cases (l : Line) (s : State) :
    ∃ eyes marks, acceptInputs l s =
      { acceptBlocks l s with
        inputs := { s.inputs with eyes := eyes }, tracker := { s.tracker with faulted := marks } } := by
  obtain ⟨e, m, checked⟩ := checkEyes_eq (acceptBlocks l s)
  exact ⟨e, _, by rw [acceptInputs_eq, checked]; rfl⟩

end Sys2Proof.Machine
end

section
/-! PROOFS. The ranges of the Travel Unit, the rotors, the eyes and the ambient temperature (R28, R32, R35, R36, R39,
R43): which blocks they are read from, each operation of Chapter 3 within its range, the acceptance of a line record, and
the invariant carried through every step. -/

namespace Sys2Proof.Machine

namespace State.InputsOk

/-- The ranges are those of the Travel Unit, the inputs, the ambient temperature and the presence of a line record. -/
theorem congr {s t : State} (h : s.InputsOk) (travel : t.travel = s.travel) (inputs : t.inputs = s.inputs)
    (ambient : t.mode.ambient = s.mode.ambient) (line : t.mode.line = s.mode.line) : t.InputsOk where
  ambient := by rw [ambient]; exact h.ambient
  illegal := by rw [travel]; exact h.illegal
  encoder := by rw [travel]; exact h.encoder
  feed := by rw [travel]; exact h.feed
  dwell := by rw [travel, line]; exact h.dwell
  rotor_one := by rw [inputs, line]; exact h.rotor_one
  rotor_two := by rw [inputs, line]; exact h.rotor_two
  eye_one := by rw [inputs, line]; exact h.eye_one
  eye_two := by rw [inputs, line]; exact h.eye_two

theorem log {s t : State} (h : s.InputsOk) (g : LogFrame s t) : t.InputsOk :=
  h.congr g.travel g.inputs g.ambient g.line

theorem linkKept : LinkKept State.InputsOk :=
  .of_linkFrame fun h g => h.congr g.travel g.inputs (by rw [g.mode]) (by rw [g.mode])

theorem rotor {s : State} (h : s.InputsOk) (k : Station) : (s.inputs.rotors.get k).ok s.mode.line := by
  cases k
  · exact h.rotor_one
  · exact h.rotor_two

theorem eye {s : State} (h : s.InputsOk) (k : Station) : (s.inputs.eyes.get k).ok s.mode.line := by
  cases k
  · exact h.eye_one
  · exact h.eye_two

theorem setRotor {s : State} (h : s.InputsOk) (k : Station) {r : Rotor} (hr : r.ok s.mode.line) :
    ({ s with inputs := { s.inputs with rotors := s.inputs.rotors.set k r } } : State).InputsOk := by
  cases k
  · exact { h with rotor_one := hr }
  · exact { h with rotor_two := hr }

theorem setEye {s : State} (h : s.InputsOk) (k : Station) {f : Eye → Eye}
    (he : (f (s.inputs.eyes.get k)).ok s.mode.line) : (s.onEye k f).InputsOk := by
  cases k
  · exact { h with eye_one := he }
  · exact { h with eye_two := he }

/-- The Travel Unit replaced by one within the ranges. -/
theorem setTravel {s : State} (h : s.InputsOk) {u : TravelUnit} (illegal : u.illegal ≤ 255)
    (encoder : u.failed = false → u.illegal < 8 ∧ u.disturbed = false) (feed : u.feed ≤ 4000)
    (dwell : s.mode.line = none → u.dwell = false) : ({ s with travel := u } : State).InputsOk :=
  { h with illegal := illegal, encoder := encoder, feed := feed, dwell := dwell }

/-! ## Travel and standstill -/

theorem checkEye {s : State} (h : s.InputsOk) (k : Station) : (checkEye k s).InputsOk := by
  unfold Machine.checkEye
  split
  · exact h
  · next l hl =>
    split
    · next hb =>
      have dark : (s.inputs.eyes.get k).dark = true := by
        simp only [eyeBlocked, Bool.and_eq_true] at hb
        exact hb.1.1
      exact (h.setEye k ⟨fun _ => ⟨dark, by simp [hl]⟩, (h.eye k).2⟩).log (markFaulted_logFrame _ _ _)
    · exact h

theorem checkEyes {s : State} (h : s.InputsOk) : (checkEyes s).InputsOk := (h.checkEye .one).checkEye .two

theorem legalTransition {s : State} (h : s.InputsOk) (forward : Bool) : (legalTransition forward s).InputsOk := by
  unfold Machine.legalTransition
  split
  · exact h
  · have moved : ({ s with travel := s.travel.moved forward s.now } : State).InputsOk :=
      h.setTravel h.illegal h.encoder h.feed fun _ => rfl
    exact (moved.log (travelChanged_logFrame _)).checkEyes

theorem cycle {s t : State} (h : s.InputsOk) (g : CycleFrame s t) : t.InputsOk :=
  h.congr g.travel g.inputs (by rw [g.mode]) (by rw [g.mode])

theorem flush {s : State} (h : s.InputsOk) : (flush s).InputsOk := h.log (flush_logFrame s)

theorem endFinishing {s : State} (h : s.InputsOk) : (endFinishing s).InputsOk := h.log (endFinishing_logFrame s)

theorem startCycle {s : State} (h : s.InputsOk) : (startCycle s).InputsOk := h.cycle (startCycle_cycleFrame s)

theorem cutCycle {s : State} (h : s.InputsOk) : (cutCycle s).InputsOk := h.cycle (cutCycle_cycleFrame s)

theorem flushed {s : State} (h : s.InputsOk) (m : Mode) (c : TripCause) :
    (Machine.flush { s with mode := { s.mode with mode := m, cause := c } }).InputsOk :=
  State.InputsOk.flush (h.congr rfl rfl rfl rfl)

theorem trip {s : State} (h : s.InputsOk) (c : TripCause) : (trip c s).InputsOk := by
  unfold Machine.trip
  split
  · exact h
  · exact h
  · exact (h.flushed .tripped c).cutCycle

/-- The eighth illegal transition of a window fails the encoder, so that it is OK only below eight (R32). -/
theorem disturb {s : State} (h : s.InputsOk) : ({ s with travel := s.travel.disturb } : State).InputsOk := by
  have count : riseTo 255 s.travel.illegal ≤ 255 := riseTo_le h.illegal
  unfold TravelUnit.disturb
  dsimp only
  split
  · next hf => exact h.setTravel count (fun c => absurd (hf.symm.trans c) (by decide)) h.feed h.dwell
  · next hf =>
    split
    · exact h.setTravel count (fun c => absurd c (by simp)) h.feed h.dwell
    · next hn => exact h.setTravel count (fun c => ⟨Nat.not_le.1 hn, (h.encoder c).2⟩) h.feed h.dwell

theorem encoderChange {s : State} (h : s.InputsOk) (a b : Bool) : (encoderChange a b s).InputsOk := by
  have levels : ({ s with travel := { s.travel with lineA := a, lineB := b } } : State).InputsOk :=
    h.setTravel h.illegal h.encoder h.feed h.dwell
  unfold Machine.encoderChange
  dsimp only
  split
  · exact levels
  · exact levels.legalTransition true
  · exact levels.legalTransition false
  · unfold illegalTransition
    dsimp only
    split
    · exact levels.disturb.trip _
    · exact levels.disturb

theorem endSpeedWindow {s : State} (h : s.InputsOk) : (endSpeedWindow s).InputsOk := by
  refine (linkKept.reach h _).setTravel (Nat.zero_le _) (fun c => ⟨Nat.zero_lt_succ 7, (h.encoder c).2⟩) ?_ h.dwell
  unfold TravelUnit.endWindow
  dsimp only
  split
  · exact Nat.min_le_right _ _
  · exact h.feed

theorem setDwell {s : State} (h : s.InputsOk) : (setDwell s).InputsOk := by
  unfold Machine.setDwell
  split
  · exact h
  · next l hl =>
    exact (linkKept.reach h _).setTravel h.illegal h.encoder h.feed fun c => nomatch hl.symm.trans c

/-! ## Rotors -/

/-- Without a line record a rotor's flag is judged set (R40). -/
theorem judgeUnder_none {line : Option Line} (h : line = none) (n : Nat) (was : Bool) :
    judgeUnder line n was = true := by
  subst h; rfl

theorem placeRotor {s : State} (h : s.InputsOk) (k : Station) {r : Rotor} (hr : r.ok s.mode.line) :
    (Machine.setRotor k r s).InputsOk :=
  (h.setRotor k hr).log (underChanged_logFrame _ _ _)

theorem silenceRotor {s : State} (h : s.InputsOk) (k : Station) : (silenceRotor k s).InputsOk := by
  unfold Machine.silenceRotor
  split
  · exact h
  · exact (linkKept.reach h _).placeRotor k ⟨Nat.zero_le _, fun c => ⟨rfl, judgeUnder_none c _ _⟩⟩

theorem referencePulse {s : State} (h : s.InputsOk) (k : Station) (edge : Nat) : (referencePulse k edge s).InputsOk :=
  h.setRotor k (h.rotor k)

theorem pulseRotor {s : State} (h : s.InputsOk) (k : Station) (edge : Nat) : (pulseRotor k edge s).InputsOk := by
  unfold Machine.pulseRotor
  split
  · exact linkKept.reach (h.referencePulse k edge) _
  · split
    · exact h
    · split
      · exact linkKept.reach ((h.silenceRotor k).referencePulse k edge) _
      · next hp =>
        refine (linkKept.reach h _).placeRotor k ⟨Nat.not_lt.1 hp, fun c => ?_⟩
        have line : s.mode.line = none := c
        exact ⟨by simp [Rotor.pulsed, rotorSpeed, line], judgeUnder_none line _ _⟩

/-! ## Eyes and the trip input -/

theorem eyeChange {s : State} (h : s.InputsOk) (k : Station) (dark : Bool) : (eyeChange k dark s).InputsOk := by
  unfold Machine.eyeChange
  split
  · exact h
  · next hd =>
    split
    · next on =>
      have light : (s.inputs.eyes.get k).dark = false := by subst on; simpa using hd
      have sound : (s.inputs.eyes.get k).fault = false := by
        cases hf : (s.inputs.eyes.get k).fault with
        | false => rfl
        | true => exact absurd (light.symm.trans ((h.eye k).1 hf).1) (by decide)
      have risen : (s.onEye k (fun e => { e with dark := true, darkSince := some s.travel.t })).InputsOk :=
        h.setEye k ⟨fun c => absurd (sound.symm.trans c) (by decide), rfl⟩
      unfold eyeRises
      dsimp only
      split
      · exact risen
      · exact risen.log (risingEdge_logFrame _ _)
    · have fallen : (s.onEye k (fun e => { e with dark := false, fault := false, darkSince := none })).InputsOk :=
        h.setEye k ⟨fun c => absurd c (by simp), rfl⟩
      unfold eyeFalls
      dsimp only
      split
      · exact fallen.log (markFaulted_logFrame _ _ _)
      · exact fallen.log (fallingEdge_logFrame _ _)

theorem tripLevel {s : State} (h : s.InputsOk) (a : Bool) : (tripLevel a s).InputsOk := by
  have level : ({ s with inputs := { s.inputs with trip := a } } : State).InputsOk := { h with }
  unfold Machine.tripLevel
  split
  · exact h
  · dsimp only
    split
    · exact level.trip _
    · exact level

/-! ## LINE_LOAD and LINE_RESET -/

/-- Under a line record each range asks less. -/
theorem withLine {s : State} (h : s.InputsOk) (l : Line) :
    ({ s with mode := { s.mode with line := some l } } : State).InputsOk where
  ambient := h.ambient
  illegal := h.illegal
  encoder := h.encoder
  feed := h.feed
  dwell := nofun
  rotor_one := ⟨h.rotor_one.1, nofun⟩
  rotor_two := ⟨h.rotor_two.1, nofun⟩
  eye_one := ⟨fun c => ⟨(h.eye_one.1 c).1, nofun⟩, h.eye_one.2⟩
  eye_two := ⟨fun c => ⟨(h.eye_two.1 c).1, nofun⟩, h.eye_two.2⟩

theorem acceptMode {s : State} (h : s.InputsOk) : (acceptMode s).InputsOk := by
  obtain same | ⟨c, -, flushed⟩ := acceptMode_cases s
  · rw [same]; exact h.congr rfl rfl rfl rfl
  · rw [flushed]; exact h.flushed _ _

theorem acceptInputs {s : State} (h : s.InputsOk) {l : Line} (hl : s.mode.line = some l) :
    (acceptInputs l s).InputsOk := by
  have travelling : ({ s with travel := s.travel.acceptLine l s.now } : State).InputsOk :=
    h.setTravel (Nat.zero_le _) (fun c => ⟨Nat.zero_lt_succ 7, (h.encoder c).2⟩) h.feed fun c => nomatch hl.symm.trans c
  have blocks : (acceptBlocks l s).InputsOk := travelling.congr rfl rfl rfl rfl
  exact blocks.checkEyes.congr rfl rfl rfl rfl

theorem acceptLine {s : State} (h : s.InputsOk) (r : LineRecord) : (acceptLine r s).InputsOk := by
  rw [acceptLine_eq]
  have ready := ((h.withLine { record := r, counts := lineCounts r }).acceptMode).acceptInputs (acceptMode_line _)
  dsimp only
  split
  · exact State.InputsOk.startCycle (ready.congr rfl rfl rfl rfl)
  · exact State.InputsOk.cutCycle (ready.congr rfl rfl rfl rfl)

theorem loadLine {s : State} (h : s.InputsOk) (p : List Byte) : (loadLine p s).state.InputsOk := by
  obtain same | ⟨-, -, accepted⟩ := loadLine_cases p s
  · rw [same]; exact h
  · rw [accepted]; exact h.acceptLine _

theorem lineReset {s : State} (h : s.InputsOk) : (lineReset s).state.InputsOk := by
  have eye : ∀ e : Eye, e.lineReset.ok s.mode.line := fun e =>
    ⟨nofun, by cases hd : e.dark <;> simp [Eye.lineReset, hd]⟩
  have ready : (resetBlocks s).InputsOk :=
    { ambient := by
        unfold resetBlocks ModeControl.lineReset
        dsimp only
        split
        · exact h.ambient
        · split <;> exact h.ambient
      illegal := Nat.zero_le _
      encoder := fun _ => ⟨Nat.zero_lt_succ 7, rfl⟩
      feed := Nat.zero_le _
      dwell := fun _ => rfl
      rotor_one := ⟨h.rotor_one.1, fun _ => ⟨rfl, rfl⟩⟩
      rotor_two := ⟨h.rotor_two.1, fun _ => ⟨rfl, rfl⟩⟩
      eye_one := by rw [show (resetBlocks s).mode.line = s.mode.line from ModeControl.lineReset_line _ _]; exact eye _
      eye_two := by rw [show (resetBlocks s).mode.line = s.mode.line from ModeControl.lineReset_line _ _]; exact eye _ }
  exact (ready.cycle (resetBlocks_cut_cycleFrame s)).congr rfl rfl rfl rfl

theorem setAmbient {s : State} (h : s.InputsOk) (z : Int) : (setAmbient z s).state.InputsOk :=
  { h with
    ambient := fun v hv => by
      rw [← Option.some.inj hv]
      exact clampInt_bounds (by decide) z }

theorem modeClear {s : State} (h : s.InputsOk) : (modeClear s).state.InputsOk := by
  obtain same | ⟨-, left⟩ := modeClear_cases s
  · rw [same]; exact h
  · rw [left]
    by_cases hf : s.travel.failed = true
    · rw [leaveTripped_of_failed hf]
      have sound : ({ s with travel := { s.travel with failed := false, disturbed := false, illegal := 0 } } : State).InputsOk :=
        h.setTravel (Nat.zero_le _) (fun _ => ⟨Nat.zero_lt_succ 7, rfl⟩) h.feed h.dwell
      exact sound.congr rfl rfl rfl rfl
    · rw [leaveTripped_of_not_failed (Bool.eq_false_iff.2 hf)]
      exact h.congr rfl rfl rfl rfl

theorem enterRun {s : State} (h : s.InputsOk) : (enterRun s).InputsOk :=
  ((h.congr rfl rfl rfl rfl : (s.setMode .run).InputsOk).log (stationAtRun_armsOnly _ _).logFrame).log
    (stationAtRun_armsOnly _ _).logFrame

theorem modeRun {s : State} (h : s.InputsOk) : (modeRun s).state.InputsOk := by
  obtain same | ⟨-, -, entered⟩ := modeRun_cases s
  · rw [same]; exact h
  · rw [entered]; exact h.enterRun

theorem modeFinish {s : State} (h : s.InputsOk) : (modeFinish s).state.InputsOk := by
  obtain same | ⟨-, begun⟩ := modeFinish_cases s
  · rw [same]; exact h
  · rw [begun]; exact State.InputsOk.endFinishing (h.congr rfl rfl rfl rfl)

theorem modeStop {s : State} (h : s.InputsOk) : (modeStop s).state.InputsOk := by
  obtain same | ⟨-, stopped⟩ := modeStop_cases s
  · rw [same]; exact h
  · rw [stopped]; exact State.InputsOk.flush (h.congr rfl rfl rfl rfl)

theorem tables {s t : State} (h : s.InputsOk) (g : TablesOnly s t) : t.InputsOk := by
  rw [g]; exact h.congr rfl rfl rfl rfl

theorem moveNextItem {s : State} (h : s.InputsOk) : (moveNextItem s).InputsOk := by
  unfold Machine.moveNextItem
  split
  · exact h
  · dsimp only
    split
    · exact h.congr rfl rfl rfl rfl
    · unfold copyComplete
      dsimp only
      split <;> exact h.congr rfl rfl rfl rfl

/-! ## Every command -/

theorem placed {s : State} (h : s.InputsOk) (f : Frame) : (s.placeReply f).InputsOk := h.congr rfl rfl rfl rfl

theorem reset (a b trip : Bool) (q : List Instr) :
    State.InputsOk { State.reset with
      travel := TravelUnit.reset a b
      inputs := { State.reset.inputs with trip := trip }
      pending := q } where
  ambient := nofun
  illegal := Nat.zero_le _
  encoder := fun _ => ⟨Nat.zero_lt_succ 7, rfl⟩
  feed := Nat.zero_le _
  dwell := fun _ => rfl
  rotor_one := ⟨Nat.zero_le _, fun _ => ⟨rfl, rfl⟩⟩
  rotor_two := ⟨Nat.zero_le _, fun _ => ⟨rfl, rfl⟩⟩
  eye_one := ⟨nofun, rfl⟩
  eye_two := ⟨nofun, rfl⟩

theorem commandsLead : CommandsLead State.InputsOk State.InputsOk where
  overflow h := linkKept.bump h _
  same h _ f := h.placed f
  loadLine h _ p f := (h.loadLine p).placed f
  modeRun h _ f := h.modeRun.placed f
  modeFinish h _ f := h.modeFinish.placed f
  modeStop h _ f := h.modeStop.placed f
  modeClear h _ f := h.modeClear.placed f
  setAmbient h _ z f := (h.setAmbient z).placed f
  openClear h _ f := (h.tables (openClear_tablesOnly _)).placed f
  openCopy h _ t begun q := by
    obtain ⟨src, -, -, -, rfl⟩ := openCopy_begun begun
    exact h.congr rfl rfl rfl rfl
  writeEntry h _ p f := (h.tables (writeEntry_tablesOnly p _)).placed f
  writeTrims h _ p f := (h.tables (writeTrims_tablesOnly p _)).placed f
  closeBank h _ f := (h.tables (closeBank_tablesOnly _)).placed f
  swapBanks h _ f := (h.tables (swapBanks_tablesOnly _)).placed f
  armRestore h _ c f := by
    rw [armRestore_channelsOnly c]
    exact h.congr rfl rfl rfl rfl
  clearCounters h _ f := h.congr rfl rfl rfl rfl
  lineReset h _ f := h.lineReset.placed f
  link := linkKept
  weaken h := h
  queue h q := linkKept.queue h q
  portU h u := linkKept.portU h u
  bump h c := linkKept.bump h c
  hardwareReset _ a b trip := reset a b trip _
  scan h p := h.log (takeScan_logFrame p _)
  void h p := h.log (takeVoid_logFrame p _)
  encoder h a b := h.encoderChange a b
  speedWindow h := h.endSpeedWindow
  dwell h := h.setDwell
  pulse h k n := h.pulseRotor k n
  silence h k := h.silenceRotor k
  eye h k d := h.eyeChange k d
  trip h a := h.tripLevel a
  copyItem h := h.moveNextItem

end State.InputsOk

/-- Settles O7: every command keeps the ranges. -/
theorem inputRangesKept : Obligations.InputRangesKept :=
  fun _ _ ok stepped => State.InputsOk.commandsLead.step ok stepped

end Sys2Proof.Machine
end

section
/-! PROOFS. A removal in stages (R72), for predicates that each stage keeps; lists mapped by index; the conditions of a
valid line record, one by one. -/

namespace Sys2Proof.Machine

/-! ## A removal, stage by stage -/

/-- A record withdrawn from the queue: all of its removal but the end of FINISHING (R72, R128). -/
def withdraw (l : Line) (r : LogRecord) (id : Nat) (why : Removal) (s : State) : State :=
  let gone := { s with tracker := { s.tracker with queue := s.tracker.queue.filter (fun x => x.id != id) } }
  let released := releaseBank gone r.bank
  let joined := match successor? id s.tracker.queue with
    | some y => if why.rejoins then rejoin l false y.id released else released
    | none => released
  examineLockout .two (examineLockout .one (dropEngaged id .two (dropEngaged id .one (joined.bump? why.counter?))))

theorem removeRecord_of_none {s : State} {id : Nat} (h : s.record? id = none) (l : Line) (why : Removal) :
    removeRecord l id why s = s := by
  simp only [removeRecord, h]

theorem removeRecord_of_some {s : State} {id : Nat} {r : LogRecord} (h : s.record? id = some r) (l : Line)
    (why : Removal) : removeRecord l id why s = endFinishing (withdraw l r id why s) := by
  unfold removeRecord
  split
  · next hn => cases h.symm.trans hn
  · next x hx =>
    obtain rfl := Option.some.inj (h.symm.trans hx)
    rfl

/-- The stages of a withdrawal, each kept by a predicate: the record gone from the queue, its bank's count, the counter,
the successor's flag and the stations (R72, R90, R69, R127). -/
structure RemovalKept (P : State → Prop) : Prop where
  gone : ∀ {s}, P s → ∀ id,
    P { s with tracker := { s.tracker with queue := s.tracker.queue.filter (fun x => x.id != id) } }
  bank : ∀ {s}, P s → ∀ k, P (releaseBank s k)
  bump : ∀ {s}, P s → ∀ c, P (s.bump c)
  joined : ∀ {s}, P s → ∀ l fresh id, P (rejoin l fresh id s)
  idle : ∀ {s}, P s → ∀ k, P (enterIdle k s)

namespace RemovalKept

variable {P : State → Prop} (h : RemovalKept P) {s : State}
include h

theorem dropEngaged (hs : P s) (id : Nat) (k : Station) : P (dropEngaged id k s) := by
  unfold Machine.dropEngaged
  split
  · exact h.idle hs k
  · exact hs

theorem examineLockout (hs : P s) (k : Station) : P (examineLockout k s) := by
  unfold Machine.examineLockout
  split
  · exact h.idle hs k
  · exact hs

/-- The stations of a withdrawal. -/
theorem stations (hs : P s) (id : Nat) : P (Machine.examineLockout .two (Machine.examineLockout .one
    (Machine.dropEngaged id .two (Machine.dropEngaged id .one s)))) :=
  h.examineLockout (h.examineLockout (h.dropEngaged (h.dropEngaged hs id .one) id .two) .one) .two

theorem withdraw (hs : P s) (l : Line) (r : LogRecord) (id : Nat) (why : Removal) : P (withdraw l r id why s) := by
  refine h.stations ?_ id
  have released := h.bank (h.gone hs id) r.bank
  have counted : ∀ {t : State}, P t → P (t.bump? why.counter?) := by
    intro t ht
    cases why.counter? with
    | none => exact ht
    | some c => exact h.bump ht c
  refine counted ?_
  dsimp only
  split
  · split
    · exact h.joined released _ _ _
    · exact released
  · exact released

/-- A removal, for a predicate that the end of FINISHING keeps. -/
theorem removeRecord (ended : ∀ {s}, P s → P (endFinishing s)) (hs : P s) (l : Line) (id : Nat) (why : Removal) :
    P (removeRecord l id why s) := by
  cases hr : s.record? id with
  | none => rw [removeRecord_of_none hr]; exact hs
  | some r => rw [removeRecord_of_some hr]; exact ended (h.withdraw hs l r id why)

end RemovalKept

/-! ## Lists mapped by index -/

@[simp] theorem mapIndexed_length {α β : Type} (f : Nat → α → β) (n : Nat) (xs : List α) :
    (mapIndexed f n xs).length = xs.length := by
  induction xs generalizing n with
  | nil => rfl
  | cons x xs ih => simp [mapIndexed, ih]

theorem mem_mapIndexed {α β : Type} {f : Nat → α → β} {n : Nat} {xs : List α} {y : β} (h : y ∈ mapIndexed f n xs) :
    ∃ i, ∃ x ∈ xs, y = f i x := by
  induction xs generalizing n with
  | nil => cases h
  | cons x xs ih =>
    obtain rfl | tail := List.mem_cons.1 h
    · exact ⟨n, x, List.mem_cons_self, rfl⟩
    · obtain ⟨i, x', hx, hy⟩ := ih tail
      exact ⟨i, x', List.mem_cons_of_mem _ hx, hy⟩

/-! ## A valid line record (R23) -/

/-- Every condition of a valid line record is met. -/
theorem condition_of_valid {r : LineRecord} (valid : firstFault (lineConditions r) = none) {n : Nat} {v : Bool}
    (h : (n, v) ∈ lineConditions r) : v = true := by
  cases v with
  | true => rfl
  | false => exact absurd h (firstFault_none.1 valid n)

theorem inRange_iff {lo hi x : Int} : inRange lo hi x = true ↔ lo ≤ x ∧ x ≤ hi := by simp [inRange]

theorem ceiling_of_valid {r : LineRecord} (valid : firstFault (lineConditions r) = none) : r.ceiling ≤ 16000 := by
  have h := condition_of_valid valid (n := 14) (v := inRange 1000 16000 r.ceiling) (by simp [lineConditions])
  have := inRange_iff.1 h
  omega

theorem deviationLimit_of_valid {r : LineRecord} (valid : firstFault (lineConditions r) = none) :
    r.deviationLimit ≤ 15 := by
  have h := condition_of_valid valid (n := 25) (v := inRange 1 15 r.deviationLimit) (by simp [lineConditions])
  have := inRange_iff.1 h
  omega

end Sys2Proof.Machine
end

section
/-! PROOFS. The ranges of the channels, the composed setpoints and the driver nodes (R114, R115, R130, R143, R153): each
operation on one channel, the composition under a valid line record, and the invariant carried through every step. -/

namespace Sys2Proof.Machine

/-! ## One channel -/

namespace Channel.ok

variable {c : Channel}

theorem at_position (h : c.ok) (x : Option ArmPos) : ({ c with position := x } : Channel).ok := h

theorem restore : c.restore.closedCycles ≤ 255 → c.restore.ok := fun _ =>
  ⟨Nat.zero_le _, Nat.zero_le _, Nat.zero_le _, Nat.zero_le _, nofun⟩

theorem completeRestore (h : c.ok) : c.completeRestore.ok := by
  unfold Channel.completeRestore
  split
  · exact restore (Nat.zero_le _)
  · exact h

theorem isolate (h : c.ok) : c.isolate.ok := ⟨h.1, h.2.1, h.2.2.1, Nat.zero_le _, nofun⟩

theorem pending (h : c.ok) (isolated : c.state = .isolated) : ({ c with pendingRestore := true } : Channel).ok :=
  ⟨h.1, h.2.1, h.2.2.1, h.2.2.2.1, fun disabled => nomatch isolated.symm.trans disabled⟩

theorem disable (h : c.ok) : c.disable.ok :=
  ⟨Nat.zero_le _, h.2.1, Nat.zero_le _, Nat.zero_le _, fun _ => ⟨rfl, rfl⟩⟩

theorem enable (h : c.ok) : c.enable.ok := by
  unfold Channel.enable
  split
  · exact ⟨Nat.zero_le _, h.2.1, Nat.zero_le _, Nat.zero_le _, nofun⟩
  · exact h

theorem lineReset (enabled : Bool) : (Channel.lineReset enabled).ok :=
  ⟨Nat.zero_le _, Nat.zero_le _, Nat.zero_le _, Nat.zero_le _, fun _ => ⟨rfl, rfl⟩⟩

/-- Below its limit a deviation count is below fifteen (R135, field 25 of R23). -/
theorem checkDeviation (h : c.ok) {r : LineRecord} (limit : r.deviationLimit ≤ 15) (pressure : Nat) :
    (checkDeviation r pressure c).ok := by
  unfold Machine.checkDeviation
  split
  · split
    · exact h.isolate
    · exact ⟨h.1, h.2.1, h.2.2.1, by dsimp only; omega, h.2.2.2.2⟩
  · exact ⟨h.1, h.2.1, h.2.2.1, Nat.zero_le _, h.2.2.2.2⟩

theorem takeEntry (h : c.ok) {r : LineRecord} (limit : r.deviationLimit ≤ 15) (x : StationState) (q : Bool)
    (e : ReportEntry) : (takeEntry r x q e c).ok := by
  unfold Machine.takeEntry
  split
  · split
    · exact h.isolate
    · split
      · exact h.checkDeviation limit _
      · exact h
  · exact h

end Channel.ok

/-! ## The composition (R97, R113, R114) -/

/-- The slew limit stays within the range of the previous setpoint and the target (R114). -/
theorem slewed_le {slew prev top : Nat} {b6 : Int} (hp : prev ≤ top) (hb : b6 ≤ top) : slewed slew prev b6 ≤ top := by
  unfold slewed
  split
  · omega
  · split <;> omega

/-- A target stands under a line record whose ceiling it does not exceed, and for a READY channel only (R97, R112). -/
theorem closeTarget_some {s : State} {k : Station} {i : Nat} {c : Channel} {l : Line} {b5 b6 : Int}
    (h : s.closeTarget k i c = some (l, b5, b6)) :
    s.mode.line = some l ∧ c.state = .ready ∧ b6 ≤ l.record.ceiling := by
  unfold State.closeTarget at h
  split at h
  · next l' id hl _ =>
    split at h
    · next hc =>
      simp only [Bool.and_eq_true, beq_iff_eq] at hc
      obtain ⟨⟨x, y⟩, ht, he⟩ := Option.map_eq_some_iff.1 h
      obtain ⟨rfl, rfl, rfl⟩ : l' = l ∧ x = b5 ∧ y = b6 := by simpa using he
      refine ⟨hl, hc.2, ?_⟩
      unfold State.target at ht
      split at ht
      · cases ht
      · dsimp only at ht
        split at ht
        · cases ht
        · obtain ⟨rfl, rfl⟩ : _ = x ∧ _ = y := by simpa using ht
          exact min_le_right _ _
    · cases h
  · cases h

namespace State.ArmsOk

variable {s : State}

/-- What the ranges are read from. -/
theorem congr {t : State} (h : s.ArmsOk) (line : t.mode.line = s.mode.line)
    (channels : t.arms.channels = s.arms.channels) (composed : t.cycle.composed = s.cycle.composed)
    (nodes : t.cycle.nodes = s.cycle.nodes) (number : t.cycle.number = s.cycle.number)
    (misses : t.cycle.headMiss = s.cycle.headMiss) : t.ArmsOk where
  line := by rw [line]; exact h.line
  five_one := by rw [channels]; exact h.five_one
  five_two := by rw [channels]; exact h.five_two
  channels_one := by rw [channels]; exact h.channels_one
  channels_two := by rw [channels]; exact h.channels_two
  composed := by rw [composed]; exact h.composed
  node_one := by rw [nodes]; exact h.node_one
  node_two := by rw [nodes]; exact h.node_two
  number := by rw [number]; exact h.number
  misses := by rw [misses]; exact h.misses

theorem five (h : s.ArmsOk) (k : Station) : (s.arms.channels.get k).length = 5 := by
  cases k
  · exact h.five_one
  · exact h.five_two

theorem channel (h : s.ArmsOk) (k : Station) : ∀ c ∈ s.arms.channels.get k, c.ok := by
  cases k
  · exact h.channels_one
  · exact h.channels_two

theorem node (h : s.ArmsOk) (k : Station) : (s.cycle.nodes.get k).ok := by
  cases k
  · exact h.node_one
  · exact h.node_two

theorem setChannels (h : s.ArmsOk) (k : Station) {f : List Channel → List Channel}
    (five : (f (s.arms.channels.get k)).length = 5) (ok : ∀ c ∈ f (s.arms.channels.get k), c.ok) :
    (s.onChannels k f).ArmsOk := by
  cases k
  · exact { h with five_one := five, channels_one := ok }
  · exact { h with five_two := five, channels_two := ok }

theorem setNode (h : s.ArmsOk) (k : Station) {n : Node} (hn : n.ok) : (s.setNode k n).ArmsOk := by
  cases k
  · exact { h with node_one := hn }
  · exact { h with node_two := hn }

theorem composeChannel (h : s.ArmsOk) (k : Station) (i : Nat) {c : Channel} (hc : c.ok) :
    (composeChannel s k i c).ok := by
  unfold Machine.composeChannel
  split
  · next l b5 b6 ht =>
    obtain ⟨line, ready, under⟩ := closeTarget_some ht
    have ceiling := ceiling_of_valid (h.line l line).1
    exact ⟨slewed_le hc.1 (by omega), hc.1, riseTo_le hc.2.2.1, hc.2.2.2.1,
      fun disabled => nomatch ready.symm.trans disabled⟩
  · exact ⟨Nat.zero_le _, hc.1, Nat.zero_le _, Nat.zero_le _, fun disabled => ⟨rfl, (hc.2.2.2.2 disabled).2⟩⟩

theorem commandOf (h : s.ArmsOk) (k : Station) (i : Nat) {c : Channel} (hc : c.ok) : (commandOf s k i c).ok := by
  refine ⟨(h.composeChannel k i hc).1, fun opened => ?_⟩
  have none : s.closeTarget k i c = none := Option.isSome_eq_false_iff.1 opened |> Option.isNone_iff_eq_none.1
  simp [Machine.commandOf, Machine.composeChannel, none]

theorem compose (h : s.ArmsOk) : (compose s).ArmsOk where
  line := h.line
  five_one := (mapIndexed_length _ _ _).trans h.five_one
  five_two := (mapIndexed_length _ _ _).trans h.five_two
  channels_one := fun c hc => by
    obtain ⟨i, x, hx, rfl⟩ := mem_mapIndexed hc
    exact h.composeChannel .one i (h.channels_one x hx)
  channels_two := fun c hc => by
    obtain ⟨i, x, hx, rfl⟩ := mem_mapIndexed hc
    exact h.composeChannel .two i (h.channels_two x hx)
  composed := fun p hp c hc => by
    obtain rfl := Option.some.inj hp
    obtain hc | hc := List.mem_append.1 hc
    · obtain ⟨i, x, hx, rfl⟩ := mem_mapIndexed hc
      exact h.commandOf .one i (h.channels_one x hx)
    · obtain ⟨i, x, hx, rfl⟩ := mem_mapIndexed hc
      exact h.commandOf .two i (h.channels_two x hx)
  node_one := h.node_one
  node_two := h.node_two
  number := h.number
  misses := h.misses

theorem drive (h : s.ArmsOk) (f : Frame) : (driveD f s).ArmsOk :=
  h.congr (congrArg ModeControl.line (driveD_cycleFrame f s).mode) (by rw [driveD_arms]) (by rw [driveD_cycle])
    (by rw [driveD_cycle]) (by rw [driveD_cycle]) (by rw [driveD_cycle])

theorem start (h : s.ArmsOk) : (startCycle s).ArmsOk := by
  unfold startCycle
  split
  · exact h
  · refine drive (compose ?_) _
    exact { h with number := Nat.le_of_lt_succ (Nat.mod_lt _ (Nat.zero_lt_succ _)) }

theorem takeEntries (h : s.ArmsOk) {l : Line} (hl : s.mode.line = some l) (k : Station) (x : StationState) (q : Bool)
    (p : List Byte) : (s.onChannels k (takeEntries l.record x q (reportEntries p))).ArmsOk := by
  have limit := deviationLimit_of_valid (h.line l hl).1
  refine h.setChannels k ?_ fun d hd => ?_
  · simp [Machine.takeEntries, reportEntries, h.five k]
  · obtain ⟨i, hi, rfl⟩ := List.getElem_of_mem hd
    simp only [Machine.takeEntries, List.getElem_zipWith]
    exact ((h.channel k _ (List.getElem_mem _)).takeEntry limit x q _).at_position _

theorem miss {n : Node} (h : n.ok) : n.miss.ok := by
  refine ⟨riseTo_le h.1, ?_⟩
  have silent := h.2
  have rises := le_riseTo 255 n.missing
  change (n.silent || decide (3 ≤ riseTo 255 n.missing)) = true ↔ 3 ≤ riseTo 255 n.missing
  rw [Bool.or_eq_true, decide_eq_true_eq, silent]
  exact ⟨fun c => c.elim (fun old => old.trans rises) (fun new => new), .inr⟩

theorem linkKept : LinkKept State.ArmsOk where
  clock h _ := h.congr rfl rfl rfl rfl rfl rfl
  queue h _ := h.congr rfl rfl rfl rfl rfl rfl
  portU h _ := h.congr rfl rfl rfl rfl rfl rfl
  rxD h _ := h.congr rfl rfl rfl rfl rfl rfl
  cut h _ := h.congr rfl rfl rfl rfl rfl rfl
  bump h _ := h.congr rfl rfl rfl rfl rfl rfl
  taken h k := by cases k <;> exact h.congr rfl rfl rfl rfl rfl rfl
  start h := h.start
  drive h _ f := h.drive f
  cycle h _ _ m :=
    { h with
      composed := by dsimp only; rw [m.composed]; exact h.composed
      node_one := by dsimp only; rw [m.nodes]; exact h.node_one
      node_two := by dsimp only; rw [m.nodes]; exact h.node_two
      number := by dsimp only; rw [m.number]; exact h.number
      misses := m.misses.elim (fun same => same.trans_le h.misses) (fun few => few) }
  heard h _ _ _ := h.congr rfl rfl rfl rfl rfl rfl
  defer h := h.congr rfl rfl rfl rfl rfl rfl
  missed h k := h.setNode k (miss (h.node k))
  found h k := h.setNode k ⟨Nat.zero_le _, by simp⟩
  report h _ hl k x q p := h.takeEntries hl k x q p
  popped h _ _ _ := h.congr rfl rfl rfl rfl rfl rfl
  pushed h _ _ _ := h.congr rfl rfl rfl rfl rfl rfl
  offerUp h f := by unfold Machine.offerUp; split <;> exact h.congr rfl rfl rfl rfl rfl rfl
  released h := h.congr rfl rfl rfl rfl rfl rfl
  handed h _ f _ _ := drive (by exact h.congr rfl rfl rfl rfl rfl rfl) f

/-! ## Stations and records -/

theorem idle (h : s.ArmsOk) (k : Station) : (enterIdle k s).ArmsOk := by
  unfold enterIdle
  split
  · exact h
  · refine setChannels (s := s.setStation k .idle) (h.congr rfl rfl rfl rfl rfl rfl) k ?_ fun c hc => ?_
    · rw [List.length_map]; exact h.five k
    · obtain ⟨x, hx, rfl⟩ := List.mem_map.1 hc
      exact (h.channel k x hx).completeRestore

theorem removalKept : RemovalKept State.ArmsOk where
  gone h _ := h.congr rfl rfl rfl rfl rfl rfl
  bank h _ := h.congr rfl rfl rfl rfl rfl rfl
  bump h _ := h.congr rfl rfl rfl rfl rfl rfl
  joined h _ _ _ := h.congr rfl rfl rfl rfl rfl rfl
  idle h k := h.idle k

theorem endFinishing (h : s.ArmsOk) : (endFinishing s).ArmsOk := by
  unfold Machine.endFinishing
  split
  · exact idle (idle (by exact h.congr rfl rfl rfl rfl rfl rfl) .one) .two
  · exact h

theorem flush (h : s.ArmsOk) : (flush s).ArmsOk :=
  idle (idle (by exact h.congr rfl rfl rfl rfl rfl rfl) .one) .two

theorem cut (h : s.ArmsOk) : (cutCycle s).ArmsOk := by
  unfold cutCycle
  dsimp only
  split
  · exact { h with composed := nofun }
  · have held : ∀ t : State, t.ArmsOk → (holdReception t).ArmsOk := by
      intro t ht
      unfold holdReception
      split
      · exact ht.congr rfl rfl rfl rfl rfl rfl
      · exact ht
    exact start (held _ { h with composed := nofun })

theorem trip (h : s.ArmsOk) (c : TripCause) : (trip c s).ArmsOk := by
  unfold Machine.trip
  split
  · exact h
  · exact h
  · exact cut (flush (h.congr rfl rfl rfl rfl rfl rfl))

theorem fieldKept : FieldKept State.ArmsOk where
  count h _ := h.congr rfl rfl rfl rfl rfl rfl
  update h _ _ _ _ := h.congr rfl rfl rfl rfl rfl rfl
  idle h k := h.idle k
  engage h _ _ _ _ _ _ _ := h.congr rfl rfl rfl rfl rfl rfl
  lock h _ _ := h.congr rfl rfl rfl rfl rfl rfl
  remove h l id why := removalKept.removeRecord (fun g => g.endFinishing) h l id why
  clock h _ := h.congr rfl rfl rfl rfl rfl rfl
  travel h _ := h.congr rfl rfl rfl rfl rfl rfl
  inputs h _ := h.congr rfl rfl rfl rfl rfl rfl
  faulted h _ := h.congr rfl rfl rfl rfl rfl rfl
  trip h c _ := h.trip c

theorem append (h : s.ArmsOk) (l : Line) (r : LogRecord) : (appendRecord l r s).ArmsOk := h.congr rfl rfl rfl rfl rfl rfl

theorem add (h : s.ArmsOk) (l : Line) (r : LogRecord) : (addSynthetic l r s).ArmsOk :=
  fieldKept.count (fieldKept.rejoinSuccessor (by exact h.congr rfl rfl rfl rfl rfl rfl) l r.id) _

theorem scan (h : s.ArmsOk) (p : List Byte) : (takeScan p s).ArmsOk := by
  unfold takeScan
  split
  · split
    · dsimp only
      split
      · exact fieldKept.count h _
      · split
        · exact fieldKept.count h _
        · exact h.append _ _
    · exact fieldKept.count h _
  · exact fieldKept.count h _

theorem void (h : s.ArmsOk) (p : List Byte) : (takeVoid p s).ArmsOk := by
  unfold takeVoid
  split
  · exact fieldKept.remove h _ _ _
  · exact fieldKept.count h _

theorem eye (h : s.ArmsOk) (k : Station) (d : Bool) : (eyeChange k d s).ArmsOk :=
  fieldKept.eyeChange h k d
    { rebased := fun _ _ _ _ _ => h.congr rfl rfl rfl rfl rfl rfl
      added := fun _ _ _ _ _ => add (by exact h.congr rfl rfl rfl rfl rfl rfl) _ _ }

/-! ## Requests -/

theorem channels_loaded (h : s.ArmsOk) (l : Line) (k : Station) :
    (loadChannels l k (s.arms.channels.get k)).length = 5 ∧ ∀ c ∈ loadChannels l k (s.arms.channels.get k), c.ok := by
  refine ⟨(mapIndexed_length _ _ _).trans (h.five k), fun c hc => ?_⟩
  obtain ⟨i, x, hx, rfl⟩ := mem_mapIndexed hc
  split
  · exact (h.channel k x hx).enable.at_position _
  · exact (h.channel k x hx).disable.at_position _

theorem acceptBlocks (h : s.ArmsOk) (l : Line) : (acceptBlocks l s).ArmsOk :=
  { h with
    five_one := (h.channels_loaded l .one).1
    five_two := (h.channels_loaded l .two).1
    channels_one := (h.channels_loaded l .one).2
    channels_two := (h.channels_loaded l .two).2
    node_one := ⟨Nat.zero_le _, by simp [Machine.acceptBlocks, Node.reset]⟩
    node_two := ⟨Nat.zero_le _, by simp [Machine.acceptBlocks, Node.reset]⟩ }

theorem acceptLine (h : s.ArmsOk) {r : LineRecord} (valid : firstFault (lineConditions r) = none) :
    (acceptLine r s).ArmsOk := by
  have lined : ({ s with mode := { s.mode with line := some { record := r, counts := lineCounts r } } } : State).ArmsOk :=
    { h with line := fun l hl => by obtain rfl := Option.some.inj hl; exact ⟨valid, rfl⟩ }
  have moded : ∀ t : State, t.ArmsOk → (acceptMode t).ArmsOk := by
    intro t ht
    obtain same | ⟨c, -, flushed⟩ := acceptMode_cases t
    · rw [same]; exact ht.congr rfl rfl rfl rfl rfl rfl
    · rw [flushed]; exact flush (ht.congr rfl rfl rfl rfl rfl rfl)
  rw [acceptLine_eq]
  obtain ⟨eyes, marks, inputs⟩ := acceptInputs_cases { record := r, counts := lineCounts r }
    (acceptMode { s with mode := { s.mode with line := some { record := r, counts := lineCounts r } } })
  have blocks := (moded _ lined).acceptBlocks { record := r, counts := lineCounts r }
  dsimp only
  rw [inputs]
  split
  · exact start (blocks.congr rfl rfl rfl rfl rfl rfl)
  · exact cut (blocks.congr rfl rfl rfl rfl rfl rfl)

theorem lineReset (h : s.ArmsOk) : (lineReset s).state.ArmsOk := by
  have channels : ∀ k cs, ∀ c ∈ resetChannels s.mode.line k cs, c.ok := by
    intro k cs c hc
    obtain ⟨i, x, -, rfl⟩ := mem_mapIndexed hc
    exact Channel.ok.lineReset _
  have ready : (resetBlocks s).ArmsOk :=
    { line := by rw [show (resetBlocks s).mode.line = s.mode.line from ModeControl.lineReset_line _ _]; exact h.line
      five_one := (mapIndexed_length _ _ _).trans h.five_one
      five_two := (mapIndexed_length _ _ _).trans h.five_two
      channels_one := channels .one _
      channels_two := channels .two _
      composed := h.composed
      node_one := ⟨Nat.zero_le _, by simp [resetBlocks, CycleMaster.lineReset, Node.reset]⟩
      node_two := ⟨Nat.zero_le _, by simp [resetBlocks, CycleMaster.lineReset, Node.reset]⟩
      number := Nat.zero_le _
      misses := Nat.zero_le _ }
  unfold Machine.lineReset
  dsimp only
  split
  · exact ready.cut.congr rfl rfl rfl rfl rfl rfl
  · exact ready.congr rfl rfl rfl rfl rfl rfl

theorem armRestore (h : s.ArmsOk) (ch : Byte) : (armRestore ch s).state.ArmsOk := by
  obtain same | ⟨c, d, there, placed, cases⟩ := armRestore_cases ch s
  · rw [same]; exact h
  · have hc : c.ok := h.channel _ c (List.mem_of_getElem? there)
    have hd : d.ok := by
      obtain rfl | rfl | ⟨isolated, rfl⟩ := cases
      · exact hc
      · exact Channel.ok.restore (Nat.zero_le _)
      · exact hc.pending isolated
    rw [placed]
    refine h.setChannels _ ?_ fun x hx => ?_
    · rw [List.length_modify]; exact h.five _
    · have there' : (s.arms.channels.get (channelPlace ch.toNat).1)[(channelPlace ch.toNat).2]? = some c := there
      rw [List.modify_eq_set_getElem?, there'] at hx
      obtain hx | rfl := List.mem_or_eq_of_mem_set (show x ∈ List.set _ _ d from hx)
      · exact h.channel _ x hx
      · exact hd

theorem placed (h : s.ArmsOk) (f : Frame) : (s.placeReply f).ArmsOk := h.congr rfl rfl rfl rfl rfl rfl

theorem tables {t : State} (h : s.ArmsOk) (g : TablesOnly s t) : t.ArmsOk := by
  rw [g]; exact h.congr rfl rfl rfl rfl rfl rfl

theorem modes (h : s.ArmsOk) (m : Mode) : (s.setMode m).ArmsOk := h.congr rfl rfl rfl rfl rfl rfl

theorem moveNextItem (h : s.ArmsOk) : (moveNextItem s).ArmsOk := by
  unfold Machine.moveNextItem
  split
  · exact h
  · dsimp only
    split
    · exact h.congr rfl rfl rfl rfl rfl rfl
    · unfold copyComplete
      dsimp only
      split <;> exact h.congr rfl rfl rfl rfl rfl rfl

theorem reset (a b trip : Bool) (q : List Instr) :
    State.ArmsOk { State.reset with
      travel := TravelUnit.reset a b
      inputs := { State.reset.inputs with trip := trip }
      pending := q } := by
  have closed : ∀ c ∈ List.replicate 5 Channel.reset, c.ok := fun c hc => by
    rw [List.eq_of_mem_replicate hc]; exact Channel.ok.lineReset false
  exact ⟨nofun, rfl, rfl, closed, closed, nofun, ⟨Nat.zero_le _, by simp [State.reset, Node.reset]⟩,
    ⟨Nat.zero_le _, by simp [State.reset, Node.reset]⟩, Nat.zero_le _, Nat.zero_le _⟩

theorem commandsLead : CommandsLead State.ArmsOk State.ArmsOk where
  overflow h := linkKept.bump h _
  same h _ f := h.placed f
  loadLine {s} h _ p f := by
    obtain same | ⟨-, valid, accepted⟩ := loadLine_cases p s
    · rw [same]; exact h.placed f
    · rw [accepted]; exact (h.acceptLine valid).placed f
  modeRun {s} h _ f := by
    obtain same | ⟨-, -, entered⟩ := modeRun_cases s
    · rw [same]; exact h.placed f
    · rw [entered]; exact (fieldKept.stationAtRun (fieldKept.stationAtRun (h.modes .run) .one) .two).placed f
  modeFinish {s} h _ f := by
    obtain same | ⟨-, begun⟩ := modeFinish_cases s
    · rw [same]; exact h.placed f
    · rw [begun]; exact (h.modes .finishing).endFinishing.placed f
  modeStop {s} h _ f := by
    obtain same | ⟨-, stopped⟩ := modeStop_cases s
    · rw [same]; exact h.placed f
    · rw [stopped]; exact (h.modes .standby).flush.placed f
  modeClear {s} h _ f := by
    obtain same | ⟨-, left⟩ := modeClear_cases s
    · rw [same]; exact h.placed f
    · rw [left]; exact h.congr rfl rfl rfl rfl rfl rfl
  setAmbient h _ _ _ := h.congr rfl rfl rfl rfl rfl rfl
  openClear h _ f := (h.tables (openClear_tablesOnly _)).placed f
  openCopy h _ t begun q := by
    obtain ⟨src, -, -, -, rfl⟩ := openCopy_begun begun
    exact h.congr rfl rfl rfl rfl rfl rfl
  writeEntry h _ p f := (h.tables (writeEntry_tablesOnly p _)).placed f
  writeTrims h _ p f := (h.tables (writeTrims_tablesOnly p _)).placed f
  closeBank h _ f := (h.tables (closeBank_tablesOnly _)).placed f
  swapBanks h _ f := (h.tables (swapBanks_tablesOnly _)).placed f
  armRestore h _ c f := (h.armRestore c).placed f
  clearCounters h _ _ := h.congr rfl rfl rfl rfl rfl rfl
  lineReset h _ f := h.lineReset.placed f
  link := linkKept
  weaken h := h
  queue h q := linkKept.queue h q
  portU h u := linkKept.portU h u
  bump h c := linkKept.bump h c
  hardwareReset _ a b trip := reset a b trip _
  scan h p := h.scan p
  void h p := h.void p
  encoder h a b := fieldKept.encoderChange h a b
  speedWindow h := fieldKept.endSpeedWindow h
  dwell h := fieldKept.setDwell h
  pulse h k n := fieldKept.pulseRotor h k n
  silence h k := fieldKept.silenceRotor h k
  eye h k d := h.eye k d
  trip h a := fieldKept.tripLevel h a
  copyItem h := h.moveNextItem

end State.ArmsOk

/-- Settles O8: every command keeps the ranges. -/
theorem armRangesKept : Obligations.ArmRangesKept :=
  fun _ _ ok stepped => State.ArmsOk.commandsLead.step ok stepped

end Sys2Proof.Machine
end

section
/-! PROOFS. What belongs to each mode (R8, R10, R16, R19, R23, R47, R118, R144): the invariant without the end of
FINISHING, which a removal restores last, the invariant outside UNSET, and the invariant carried through every step. -/

namespace Sys2Proof.Machine

/-- A station held anywhere but IDLE follows its machine (R118). -/
def State.Held (s : State) : Prop := ∀ k, s.arms.stations.get k ≠ .idle → s.follows k = true

theorem State.ModeOk.held {s : State} (h : s.ModeOk) : s.Held := by
  intro k
  cases k
  · exact h.held_one
  · exact h.held_two

theorem State.held_of_idle {s : State} (h : s.arms.stations = { one := .idle, two := .idle }) : s.Held := by
  intro k
  rw [h]
  cases k <;> exact fun c => absurd rfl c

/-- What belongs to each mode, but for the end of FINISHING with the last record (R19). -/
structure State.ModeSteady (s : State) : Prop where
  unset_iff : s.mode.mode = .unset ↔ s.mode.line = none
  cause_iff : s.mode.cause ≠ .none ↔ s.mode.mode = .tripped
  own : s.switch.ownAddr = (match s.mode.line with | none => 254#8 | some l => BitVec.ofNat 8 l.record.address)
  halted_iff : s.cycle.phase = .halted ↔ s.mode.mode = .unset
  due_iff : s.cycle.nextDue = none ↔ s.mode.mode = .unset
  quiet : s.mode.mode = .unset → s.portD.tx = none ∧ s.cycle.wait = none ∧ s.switch.down = []
  queued : s.tracker.queue ≠ [] → s.mode.mode.works = true
  held : s.Held

theorem State.ModeOk.steady {s : State} (h : s.ModeOk) : s.ModeSteady :=
  ⟨h.unset_iff, h.cause_iff, h.own, h.halted_iff, h.due_iff, h.quiet, h.queued, h.held⟩

namespace State.ModeSteady

variable {s : State}

theorem modeOk (h : s.ModeSteady) (finishing : s.mode.mode = .finishing → s.tracker.queue ≠ []) : s.ModeOk :=
  ⟨h.unset_iff, h.cause_iff, h.own, h.halted_iff, h.due_iff, h.quiet, h.queued, finishing, h.held .one, h.held .two⟩

/-- What the invariant is read from. -/
theorem congr {t : State} (h : s.ModeSteady) (mode : t.mode.mode = s.mode.mode) (cause : t.mode.cause = s.mode.cause)
    (line : t.mode.line = s.mode.line) (own : t.switch.ownAddr = s.switch.ownAddr)
    (halted : t.cycle.phase = .halted ↔ s.cycle.phase = .halted)
    (due : t.cycle.nextDue = s.cycle.nextDue)
    (quiet : s.mode.mode = .unset → s.portD.tx = none ∧ s.cycle.wait = none ∧ s.switch.down = [] →
      t.portD.tx = none ∧ t.cycle.wait = none ∧ t.switch.down = [])
    (queue : t.tracker.queue ≠ [] → s.tracker.queue ≠ []) (held : t.Held) : t.ModeSteady where
  unset_iff := by rw [mode, line]; exact h.unset_iff
  cause_iff := by rw [mode, cause]; exact h.cause_iff
  own := by rw [own, line]; exact h.own
  halted_iff := by rw [mode]; exact halted.trans h.halted_iff
  due_iff := by rw [mode, due]; exact h.due_iff
  quiet := fun hm => by rw [mode] at hm; exact quiet hm (h.quiet hm)
  queued := fun hq => by rw [mode]; exact h.queued (queue hq)
  held := held

/-- Outside UNSET the invariant asks for a line record, its address, a running cycle, records in the working modes
alone, and stations that follow their machines. -/
theorem of_line {l : Line} (line : s.mode.line = some l) (mode : s.mode.mode ≠ .unset)
    (cause : s.mode.cause ≠ .none ↔ s.mode.mode = .tripped) (own : s.switch.ownAddr = BitVec.ofNat 8 l.record.address)
    (phase : s.cycle.phase ≠ .halted) (due : s.cycle.nextDue ≠ none)
    (queued : s.tracker.queue ≠ [] → s.mode.mode.works = true) (held : s.Held) : s.ModeSteady where
  unset_iff := ⟨fun c => absurd c mode, fun c => nomatch line.symm.trans c⟩
  cause_iff := cause
  own := by rw [line]; exact own
  halted_iff := ⟨fun c => absurd c phase, fun c => absurd c mode⟩
  due_iff := ⟨fun c => absurd c due, fun c => absurd c mode⟩
  quiet := fun c => absurd c mode
  queued := queued
  held := held

theorem running (h : s.ModeSteady) (mode : s.mode.mode ≠ .unset) :
    ∃ l, s.mode.line = some l ∧ s.switch.ownAddr = BitVec.ofNat 8 l.record.address
      ∧ s.cycle.phase ≠ .halted ∧ s.cycle.nextDue ≠ none := by
  have own := h.own
  cases hl : s.mode.line with
  | none => exact absurd (h.unset_iff.2 hl) mode
  | some l =>
    rw [hl] at own
    exact ⟨l, rfl, own, fun c => mode (h.halted_iff.1 c), fun c => mode (h.due_iff.1 c)⟩

theorem mode_of_line (h : s.ModeSteady) (line : s.mode.line ≠ none) : s.mode.mode ≠ .unset :=
  fun c => line (h.unset_iff.1 c)

/-! ## The link and the cycle -/

/-- A change of the link alone, under a line record or quiet. -/
theorem link (h : s.ModeSteady) {t : State} (g : LinkFrame s t) (own : t.switch.ownAddr = s.switch.ownAddr)
    (halted : t.cycle.phase = .halted ↔ s.cycle.phase = .halted) (due : t.cycle.nextDue = s.cycle.nextDue)
    (quiet : s.mode.mode = .unset → s.portD.tx = none ∧ s.cycle.wait = none ∧ s.switch.down = [] →
      t.portD.tx = none ∧ t.cycle.wait = none ∧ t.switch.down = []) : t.ModeSteady := by
  refine h.congr (by rw [g.mode]) (by rw [g.mode]) (by rw [g.mode]) own halted due quiet
    (by rw [g.tracker]; exact fun c => c) fun k hk => ?_
  rw [g.stations] at hk
  have follows := h.held k hk
  unfold State.follows at *
  rw [g.mode]
  exact follows

/-- A change of the link alone that leaves the running cycle and what UNSET keeps empty. -/
theorem linkSame (h : s.ModeSteady) {t : State} (g : LinkFrame s t) (own : t.switch.ownAddr = s.switch.ownAddr)
    (cycle : t.cycle = s.cycle) (tx : t.portD.tx = s.portD.tx) (down : t.switch.down = s.switch.down) : t.ModeSteady :=
  h.link g own (by rw [cycle]) (by rw [cycle]) fun _ => by rw [cycle, tx, down]; exact fun c => c

/-- Under a line record the link may send, wait and queue. -/
theorem linkRunning (h : s.ModeSteady) {t : State} (mode : s.mode.mode ≠ .unset) (g : LinkFrame s t)
    (own : t.switch.ownAddr = s.switch.ownAddr)
    (phase : t.cycle.phase ≠ .halted) (due : t.cycle.nextDue ≠ none) : t.ModeSteady := by
  obtain ⟨l, line, address, -, -⟩ := h.running mode
  refine of_line (l := l) (by rw [g.mode, line]) (by rw [g.mode]; exact mode) (by rw [g.mode]; exact h.cause_iff)
    (own.trans address) phase due (by rw [g.tracker, g.mode]; exact h.queued) fun k hk => ?_
  rw [g.stations] at hk
  have follows := h.held k hk
  unfold State.follows at *
  rw [g.mode]
  exact follows

theorem drive (h : s.ModeSteady) (mode : s.mode.mode ≠ .unset) (f : Frame) : (driveD f s).ModeSteady := by
  obtain ⟨l, -, -, phase, due⟩ := h.running mode
  have g := driveD_cycleFrame f s
  exact h.linkRunning mode g.linkFrame g.ownAddr (by rw [driveD_cycle]; exact phase) (by rw [driveD_cycle]; exact due)

/-- A start taken runs the cycle (R145). -/
theorem startCycle_runs {l : Line} (line : s.mode.line = some l) :
    (startCycle s).cycle.phase = .sync ∧ (startCycle s).cycle.nextDue = some (s.now + l.record.period * 1000) := by
  unfold startCycle
  split
  · next none => cases line.symm.trans none
  · next l' line' =>
    obtain rfl := Option.some.inj (line.symm.trans line')
    dsimp only
    rw [driveD_cycle]
    exact ⟨rfl, rfl⟩

/-- A start taken keeps what belongs to the mode (R145). -/
theorem start (h : s.ModeSteady) : (startCycle s).ModeSteady := by
  have g := startCycle_cycleFrame s
  cases hl : s.mode.line with
  | none =>
    have same : startCycle s = s := by unfold startCycle; split <;> simp_all
    rw [same]; exact h
  | some l =>
    obtain ⟨phase, due⟩ := startCycle_runs hl
    exact h.linkRunning (h.mode_of_line (by simp [hl])) g.linkFrame g.ownAddr (by simp [phase]) (by simp [due])

end State.ModeSteady

namespace State.ModeOk

variable {s : State}

/-- A change that keeps the steady part, the mode and the queue keeps the whole. -/
theorem of_steady {t : State} (h : s.ModeOk) (steady : t.ModeSteady) (mode : t.mode.mode = s.mode.mode)
    (queue : t.tracker.queue = s.tracker.queue) : t.ModeOk :=
  steady.modeOk (by rw [mode, queue]; exact h.finishing)

theorem linkSame (h : s.ModeOk) {t : State} (g : LinkFrame s t) (own : t.switch.ownAddr = s.switch.ownAddr)
    (cycle : t.cycle = s.cycle) (tx : t.portD.tx = s.portD.tx) (down : t.switch.down = s.switch.down) : t.ModeOk :=
  h.of_steady (h.steady.linkSame g own cycle tx down) (by rw [g.mode]) (by rw [g.tracker])

theorem linkRunning (h : s.ModeOk) {t : State} (mode : s.mode.mode ≠ .unset) (g : LinkFrame s t)
    (own : t.switch.ownAddr = s.switch.ownAddr)
    (phase : t.cycle.phase ≠ .halted) (due : t.cycle.nextDue ≠ none) : t.ModeOk :=
  h.of_steady (h.steady.linkRunning mode g own phase due) (by rw [g.mode]) (by rw [g.tracker])

theorem start (h : s.ModeOk) : (startCycle s).ModeOk :=
  h.of_steady h.steady.start (congrArg ModeControl.mode (startCycle_cycleFrame s).mode)
    (congrArg LogTracker.queue (startCycle_cycleFrame s).tracker)

theorem linkKept : LinkKept State.ModeOk where
  clock h _ := h.linkSame ⟨rfl, rfl, rfl, rfl, rfl, rfl, rfl⟩ rfl rfl rfl rfl
  queue h _ := h.linkSame ⟨rfl, rfl, rfl, rfl, rfl, rfl, rfl⟩ rfl rfl rfl rfl
  portU h _ := h.linkSame ⟨rfl, rfl, rfl, rfl, rfl, rfl, rfl⟩ rfl rfl rfl rfl
  rxD h _ := h.linkSame ⟨rfl, rfl, rfl, rfl, rfl, rfl, rfl⟩ rfl rfl rfl rfl
  cut h _ := h.linkSame ⟨rfl, rfl, rfl, rfl, rfl, rfl, rfl⟩ rfl rfl rfl rfl
  bump h _ := h.linkSame ⟨rfl, rfl, rfl, rfl, rfl, rfl, rfl⟩ rfl rfl rfl rfl
  taken h k := by cases k <;> exact h.linkSame ⟨rfl, rfl, rfl, rfl, rfl, rfl, rfl⟩ rfl rfl rfl rfl
  start h := h.start
  drive {s} h line f := by
    have g := driveD_cycleFrame f s
    exact h.of_steady (h.steady.drive (h.steady.mode_of_line line) f) (by rw [g.mode]) (by rw [g.tracker])
  cycle {s} h line d m := by
    have mode := h.steady.mode_of_line line
    obtain ⟨l, -, -, phase, due⟩ := h.steady.running mode
    exact h.linkRunning mode ⟨rfl, rfl, rfl, rfl, rfl, rfl, rfl⟩ rfl
      (m.phase.elim (fun same => same ▸ phase) (fun on => on)) (by dsimp only; rw [m.nextDue]; exact due)
  heard {s} h w v hw := by
    have mode : s.mode.mode ≠ .unset := fun c => nomatch hw.symm.trans (h.quiet c).2.1
    obtain ⟨l, -, -, phase, due⟩ := h.steady.running mode
    exact h.linkRunning mode ⟨rfl, rfl, rfl, rfl, rfl, rfl, rfl⟩ rfl phase due
  defer h := h.of_steady (h.steady.link ⟨rfl, rfl, rfl, rfl, rfl, rfl, rfl⟩ rfl Iff.rfl rfl fun _ c => c) rfl rfl
  missed h _ := h.of_steady (h.steady.link ⟨rfl, rfl, rfl, rfl, rfl, rfl, rfl⟩ rfl Iff.rfl rfl fun _ c => c) rfl rfl
  found h _ := h.of_steady (h.steady.link ⟨rfl, rfl, rfl, rfl, rfl, rfl, rfl⟩ rfl Iff.rfl rfl fun _ c => c) rfl rfl
  report h _ _ _ _ _ _ := h.linkSame ⟨rfl, rfl, rfl, rfl, rfl, rfl, rfl⟩ rfl rfl rfl rfl
  popped {s} h e rest hd := by
    have mode : s.mode.mode ≠ .unset := fun c => nomatch hd.symm.trans (h.quiet c).2.2
    obtain ⟨l, -, -, phase, due⟩ := h.steady.running mode
    exact h.linkRunning mode ⟨rfl, rfl, rfl, rfl, rfl, rfl, rfl⟩ rfl phase due
  pushed {s} h e mode _ := by
    obtain ⟨l, -, -, phase, due⟩ := h.steady.running mode
    exact h.linkRunning mode ⟨rfl, rfl, rfl, rfl, rfl, rfl, rfl⟩ rfl phase due
  offerUp h f := by
    unfold Machine.offerUp
    split <;> exact h.linkSame ⟨rfl, rfl, rfl, rfl, rfl, rfl, rfl⟩ rfl rfl rfl rfl
  released h := h.of_steady (h.steady.link ⟨rfl, rfl, rfl, rfl, rfl, rfl, rfl⟩ rfl Iff.rfl rfl
    fun _ c => ⟨rfl, c.2⟩) rfl rfl
  handed {s} h x f rest hx := by
    have mode : s.mode.mode ≠ .unset := fun c => nomatch hx.symm.trans (h.quiet c).1
    obtain ⟨l, -, -, phase, due⟩ := h.steady.running mode
    have g := driveD_cycleFrame f { s with portD := { s.portD with tx := none, waiting := rest } }
    exact h.linkRunning mode
      ⟨g.mode, g.tables, g.travel, g.inputs, g.tracker, g.stations, g.inFlight⟩ g.ownAddr
      (by rw [driveD_cycle]; exact phase) (by rw [driveD_cycle]; exact due)

/-- The cut of a running cycle (R161). -/
theorem cut (h : s.ModeOk) (line : s.mode.line ≠ none) : (cutCycle s).ModeOk := by
  have mode := h.steady.mode_of_line line
  obtain ⟨l, -, -, phase, due⟩ := h.steady.running mode
  have dropped : ∀ b, State.ModeOk { s with cycle := { s.cycle with
      wait := none, deferred := false, composed := none, cutPending := b } } :=
    fun b => h.linkRunning mode ⟨rfl, rfl, rfl, rfl, rfl, rfl, rfl⟩ rfl phase due
  unfold cutCycle
  dsimp only
  split
  · exact dropped true
  · refine State.ModeOk.start ?_
    unfold holdReception
    split
    · exact (dropped s.cycle.cutPending).linkSame ⟨rfl, rfl, rfl, rfl, rfl, rfl, rfl⟩ rfl rfl rfl rfl
    · exact dropped s.cycle.cutPending

end State.ModeOk

/-! ## Stations and records -/

namespace State.ModeSteady

variable {s : State}

/-- A change of the Arm Controller alone whose stations follow their machines where they are not IDLE. -/
theorem arms (h : s.ModeSteady) {t : State} (g : ArmsOnly s t)
    (held : ∀ k, t.arms.stations.get k ≠ .idle → s.follows k = true) : t.ModeSteady := by
  rw [g] at held ⊢
  exact h.congr rfl rfl rfl rfl Iff.rfl rfl (fun _ c => c) (fun c => c) held

theorem idle (h : s.ModeSteady) (k : Station) : (enterIdle k s).ModeSteady := by
  refine h.arms (enterIdle_armsOnly k s) fun j hj => ?_
  rw [enterIdle_stations, Pair.get_set] at hj
  split at hj
  · exact absurd rfl hj
  · exact h.held j hj

theorem station (h : s.ModeSteady) {k : Station} (follows : s.follows k = true) (x : StationState) :
    (s.setStation k x).ModeSteady := by
  refine h.arms (setStation_armsOnly s k x) fun j hj => ?_
  rw [State.setStation_arms_stations, Pair.get_set] at hj
  split at hj
  · next hjk => exact hjk ▸ follows
  · exact h.held j hj

/-- A change of the queue that adds to it in the working modes alone. -/
theorem records (h : s.ModeSteady) (x : LogTracker) (queue : x.queue ≠ [] → s.mode.mode.works = true) :
    ({ s with tracker := x } : State).ModeSteady :=
  { h with queued := queue, held := h.held }

theorem removalKept : RemovalKept State.ModeSteady where
  gone {s} h id := h.records _ fun some => h.queued fun none => some (by simp [none])
  bank h _ := h.congr rfl rfl rfl rfl Iff.rfl rfl (fun _ c => c) (fun c => c) h.held
  bump h _ := h.congr rfl rfl rfl rfl Iff.rfl rfl (fun _ c => c) (fun c => c) h.held
  joined {s} h l fresh id := h.records _ fun some => h.queued fun none => some (by simp [updateRecord, none])
  idle h k := h.idle k

/-- The end of FINISHING restores what a removal may break (R19, R129). -/
theorem endFinishing (h : s.ModeSteady) : (endFinishing s).ModeOk := by
  unfold Machine.endFinishing
  split
  · next hc =>
    simp only [Bool.and_eq_true, beq_iff_eq, List.isEmpty_iff] at hc
    obtain ⟨l, line, own, phase, due⟩ := h.running (by rw [hc.1]; exact nofun)
    have cause : s.mode.cause = .none := by
      by_contra c
      exact absurd (hc.1.symm.trans (h.cause_iff.1 c)) nofun
    have only := stationsIdle_armsOnly { s with mode := { s.mode with mode := .standby } }
    have stations := stationsIdle_stations { s with mode := { s.mode with mode := .standby } }
    rw [only]
    refine modeOk (of_line (l := l) line nofun ⟨fun c => absurd cause c, nofun⟩ own phase due
      (fun c => absurd hc.2 c) (State.held_of_idle stations)) nofun
  · next hc =>
    refine h.modeOk fun finishing none => hc ?_
    simp [finishing, none]

end State.ModeSteady

namespace State.ModeOk

variable {s : State}

theorem remove (h : s.ModeOk) (l : Line) (id : Nat) (why : Removal) : (removeRecord l id why s).ModeOk := by
  cases hr : s.record? id with
  | none => rw [removeRecord_of_none hr]; exact h
  | some r =>
    rw [removeRecord_of_some hr]
    exact (ModeSteady.removalKept.withdraw h.steady l r id why).endFinishing

/-- A queue replaced by one that is empty exactly when it was. -/
theorem records (h : s.ModeOk) (x : LogTracker) (queue : x.queue = [] ↔ s.tracker.queue = []) :
    ({ s with tracker := x } : State).ModeOk :=
  (h.steady.records x fun c => h.queued fun none => c (queue.2 none)).modeOk
    fun finishing none => h.finishing finishing (queue.1 none)

/-- A flush into a mode other than UNSET and FINISHING, with its cause (R22). -/
theorem flushed (h : s.ModeOk) (running : s.mode.mode ≠ .unset) {m : Mode} {c : TripCause} (unset : m ≠ .unset)
    (finishing : m ≠ .finishing) (cause : c ≠ .none ↔ m = .tripped) :
    (flush { s with mode := { s.mode with mode := m, cause := c } }).ModeOk := by
  obtain ⟨l, line, own, phase, due⟩ := h.steady.running running
  unfold flush
  have stations := stationsIdle_stations { s with
    mode := { s.mode with mode := m, cause := c }
    tracker := { s.tracker with queue := [] }
    tables := s.tables.releaseAll }
  rw [stationsIdle_armsOnly]
  exact ModeSteady.modeOk (ModeSteady.of_line (l := l) line unset cause own phase due (fun c => absurd rfl c)
    (State.held_of_idle stations)) fun c => absurd c finishing

theorem trip (h : s.ModeOk) (c : TripCause) (named : c ≠ .none) : (trip c s).ModeOk := by
  unfold Machine.trip
  split
  · exact h
  · exact h
  · next unset tripped =>
    have flushed := h.flushed unset (m := .tripped) (c := c) nofun nofun ⟨fun _ => rfl, fun _ => named⟩
    refine flushed.cut ?_
    rw [(flush_logFrame _).line]
    exact fun c => unset (h.unset_iff.2 c)

theorem fieldKept : FieldKept State.ModeOk where
  count h _ := linkKept.bump h _
  update {s} h id f _ _ := h.records _ (by simp [updateRecord])
  idle {s} h k := h.of_steady (h.steady.idle k) (by rw [enterIdle_armsOnly]) (by rw [enterIdle_armsOnly])
  engage h _ _ _ follows _ _ _ := h.of_steady (h.steady.station follows _) rfl rfl
  lock h _ follows := h.of_steady (h.steady.station follows _) rfl rfl
  remove h l id why := h.remove l id why
  clock h _ := linkKept.clock h _
  travel h _ := h.of_steady (h.steady.congr rfl rfl rfl rfl Iff.rfl rfl (fun _ c => c) (fun c => c) h.held) rfl rfl
  inputs h _ := h.of_steady (h.steady.congr rfl rfl rfl rfl Iff.rfl rfl (fun _ c => c) (fun c => c) h.held) rfl rfl
  faulted h _ := h.records _ Iff.rfl
  trip h c named := h.trip c named

/-- Records come into the queue in RUN alone (R50, R62). -/
theorem arrives (h : s.ModeOk) (run : s.mode.mode = .run) (x : LogTracker) (k : BankId) (b : Bank) :
    State.ModeOk (State.setBank { s with tracker := x } k b) := by
  have steady := h.steady.records x fun _ => by rw [run]; rfl
  have bound : State.ModeSteady (State.setBank { s with tracker := x } k b) :=
    steady.congr rfl rfl rfl rfl Iff.rfl rfl (fun _ c => c) (fun c => c) steady.held
  exact bound.modeOk fun finishing => nomatch run.symm.trans finishing

theorem scan (h : s.ModeOk) (p : List Byte) : (takeScan p s).ModeOk := by
  unfold takeScan
  split
  · next l run _ =>
    split
    · dsimp only
      split
      · exact linkKept.bump h _
      · split
        · exact linkKept.bump h _
        · exact fieldKept.rejoin (h.arrives run _ _ _) _ _ _
    · exact linkKept.bump h _
  · exact linkKept.bump h _

theorem void (h : s.ModeOk) (p : List Byte) : (takeVoid p s).ModeOk := by
  unfold takeVoid
  split
  · exact h.remove _ _ _
  · exact linkKept.bump h _

theorem eye (h : s.ModeOk) (k : Station) (d : Bool) : (eyeChange k d s).ModeOk := by
  have lit : (s.onEye k (fun e => { e with dark := true, darkSince := some s.travel.t })).ModeOk := fieldKept.inputs h _
  refine fieldKept.eyeChange h k d { rebased := fun _ _ _ _ _ => ?_, added := fun l _ run _ _ => ?_ }
  · exact lit.records _ (by simp [updateRecord])
  · exact fieldKept.count (fieldKept.rejoinSuccessor (fieldKept.rejoin (lit.arrives run _ _ _) _ _ _) _ _) _

/-! ## Requests -/

theorem placed (h : s.ModeOk) (f : Frame) : (s.placeReply f).ModeOk :=
  h.linkSame ⟨rfl, rfl, rfl, rfl, rfl, rfl, rfl⟩ rfl rfl rfl rfl

/-- A change of the Table Store and of the request in flight. -/
theorem store (h : s.ModeOk) (t : TableStore) (q : RequestService) :
    ({ s with tables := t, requests := q } : State).ModeOk :=
  h.of_steady (h.steady.congr rfl rfl rfl rfl Iff.rfl rfl (fun _ c => c) (fun c => c) h.held) rfl rfl

theorem tables {t : State} (h : s.ModeOk) (g : TablesOnly s t) : t.ModeOk := by
  rw [g]; exact h.store _ _

theorem moveNextItem (h : s.ModeOk) : (moveNextItem s).ModeOk := by
  unfold Machine.moveNextItem
  split
  · exact h
  · next c _ =>
    have reached := linkKept.reach h c.due
    dsimp only
    split
    · exact reached.store _ _
    · unfold copyComplete
      dsimp only
      split
      · exact reached.store _ _
      · exact reached.store _ _

/-- In STANDBY and TRIPPED every station is IDLE. -/
theorem stations_idle (h : s.ModeOk) (rests : s.mode.mode.works = false) (k : Station) :
    s.arms.stations.get k = .idle := by
  by_contra c
  have follows := h.held k c
  simp [State.follows, rests] at follows

theorem modeRun (h : s.ModeOk) : (modeRun s).state.ModeOk := by
  obtain same | ⟨standby, -, entered⟩ := modeRun_cases s
  · rw [same]; exact h
  · rw [entered]
    obtain ⟨l, line, own, phase, due⟩ := h.steady.running (by rw [standby]; exact nofun)
    have cause : s.mode.cause = .none := by
      by_contra c
      exact absurd (standby.symm.trans (h.cause_iff.1 c)) nofun
    have run : (s.setMode .run).ModeOk :=
      ModeSteady.modeOk (ModeSteady.of_line (l := l) line nofun ⟨fun c => absurd cause c, nofun⟩ own phase due
        (fun _ => rfl) fun k hk => absurd (h.stations_idle (by rw [standby]; rfl) k) hk) nofun
    exact fieldKept.stationAtRun (fieldKept.stationAtRun run .one) .two

theorem modeFinish (h : s.ModeOk) : (modeFinish s).state.ModeOk := by
  obtain same | ⟨run, begun⟩ := modeFinish_cases s
  · rw [same]; exact h
  · rw [begun]
    obtain ⟨l, line, own, phase, due⟩ := h.steady.running (by rw [run]; exact nofun)
    have cause : s.mode.cause = .none := by
      by_contra c
      exact absurd (run.symm.trans (h.cause_iff.1 c)) nofun
    refine ModeSteady.endFinishing (ModeSteady.of_line (l := l) line nofun ⟨fun c => absurd cause c, nofun⟩ own phase
      due (fun _ => rfl) fun k hk => ?_)
    have follows := h.held k hk
    simpa [State.follows, run, Mode.works] using follows

theorem modeStop (h : s.ModeOk) : (modeStop s).state.ModeOk := by
  obtain same | ⟨working, stopped⟩ := modeStop_cases s
  · rw [same]; exact h
  · rw [stopped]
    have cause : s.mode.cause = .none := by
      by_contra c
      have tripped := h.cause_iff.1 c
      rw [tripped] at working
      exact working.elim nofun nofun
    refine h.flushed (m := .standby) (c := s.mode.cause) ?_ nofun nofun ⟨fun c => absurd cause c, nofun⟩
    intro unset
    rw [unset] at working
    exact working.elim nofun nofun

theorem modeClear (h : s.ModeOk) : (modeClear s).state.ModeOk := by
  obtain same | ⟨tripped, left⟩ := modeClear_cases s
  · rw [same]; exact h
  · rw [left]
    obtain ⟨l, line, own, phase, due⟩ := h.steady.running (by rw [tripped]; exact nofun)
    have rests : s.mode.mode.works = false := by rw [tripped]; rfl
    exact ModeSteady.modeOk (ModeSteady.of_line (l := l) line nofun ⟨fun c => absurd rfl c, nofun⟩ own phase due
      (fun c => absurd (h.queue_eq_nil rests) c) fun k hk => absurd (h.stations_idle rests k) hk) nofun

end State.ModeOk

/-! ## LINE_LOAD and LINE_RESET -/

/-- A part that stands under a line record with no record queued: what its mode asks but for the cycle. -/
structure State.Stands (s : State) (l : Line) : Prop where
  line : s.mode.line = some l
  set : s.mode.mode ≠ .unset
  settled : s.mode.mode ≠ .finishing
  cause : s.mode.cause ≠ .none ↔ s.mode.mode = .tripped
  own : s.switch.ownAddr = BitVec.ofNat 8 l.record.address
  empty : s.tracker.queue = []
  idle : s.arms.stations = { one := .idle, two := .idle }

namespace State.Stands

variable {s : State} {l : Line}

/-- Over a running cycle it meets the whole invariant. -/
theorem modeOk (h : s.Stands l) (phase : s.cycle.phase ≠ .halted) (due : s.cycle.nextDue ≠ none) : s.ModeOk :=
  ModeSteady.modeOk (ModeSteady.of_line h.line h.set h.cause h.own phase due (fun c => absurd h.empty c)
    (State.held_of_idle h.idle)) fun c => absurd c h.settled

theorem congr {t : State} (h : s.Stands l) (mode : t.mode = s.mode) (own : t.switch.ownAddr = s.switch.ownAddr)
    (queue : t.tracker.queue = s.tracker.queue) (stations : t.arms.stations = s.arms.stations) : t.Stands l where
  line := by rw [mode]; exact h.line
  set := by rw [mode]; exact h.set
  settled := by rw [mode]; exact h.settled
  cause := by rw [mode]; exact h.cause
  own := own.trans h.own
  empty := queue.trans h.empty
  idle := stations.trans h.idle

/-- A first start makes the cycle run (R27). -/
theorem started (h : s.Stands l) : (startCycle s).ModeOk := by
  have g := startCycle_cycleFrame s
  obtain ⟨phase, due⟩ := ModeSteady.startCycle_runs h.line
  exact modeOk (h.congr g.mode g.ownAddr (congrArg _ g.tracker) g.stations) (by simp [phase]) (by simp [due])

end State.Stands

namespace State.ModeOk

variable {s : State}

theorem stations_rest (h : s.ModeOk) (rests : s.mode.mode.works = false) :
    s.arms.stations = { one := .idle, two := .idle } := by
  have one : s.arms.stations.one = .idle := h.stations_idle rests .one
  have two : s.arms.stations.two = .idle := h.stations_idle rests .two
  cases hs : s.arms.stations with
  | mk x y =>
    rw [hs] at one two
    exact congrArg₂ Pair.mk one two

/-- What an acceptance makes of a part at rest, up to the start or the cut of the cycle (R25 to R27). -/
theorem accepted (h : s.ModeOk) (rests : s.mode.mode.works = false) (r : LineRecord) :
    let l : Line := { record := r, counts := lineCounts r }
    let t := (acceptInputs l (acceptMode { s with mode := { s.mode with line := some l } })).addressed
      (BitVec.ofNat 8 r.address)
    t.Stands l ∧ t.cycle.phase = s.cycle.phase ∧ t.cycle.nextDue = s.cycle.nextDue := by
  intro l t
  obtain ⟨eyes, marks, inputs⟩ := acceptInputs_cases l (acceptMode { s with mode := { s.mode with line := some l } })
  have ht : t = State.addressed _ (BitVec.ofNat 8 r.address) := congrArg (State.addressed · _) inputs
  obtain same | ⟨c, named, flushed⟩ := acceptMode_cases { s with mode := { s.mode with line := some l } }
  · rw [ht, same]
    exact ⟨⟨rfl, nofun, nofun, ⟨fun c => absurd rfl c, nofun⟩, rfl, h.queue_eq_nil rests, h.stations_rest rests⟩,
      rfl, rfl⟩
  · rw [ht, flushed]
    unfold flush
    have stations := stationsIdle_stations { s with
      mode := { s.mode with mode := .tripped, cause := c, line := some l }
      tracker := { s.tracker with queue := [] }
      tables := s.tables.releaseAll }
    rw [stationsIdle_armsOnly]
    exact ⟨⟨rfl, nofun, nofun, ⟨fun _ => rfl, fun _ => named⟩, rfl, rfl, stations⟩, rfl, rfl⟩

theorem acceptLine (h : s.ModeOk) (mode : s.mode.mode = .unset ∨ s.mode.mode = .standby) (r : LineRecord) :
    (acceptLine r s).ModeOk := by
  have rests : s.mode.mode.works = false := by rcases mode with m | m <;> rw [m] <;> rfl
  obtain ⟨stands, phase, due⟩ := h.accepted rests r
  rw [acceptLine_eq]
  dsimp only at stands phase due ⊢
  split
  · exact stands.started
  · next set =>
    obtain ⟨l, -, -, running, next⟩ := h.steady.running set
    exact (stands.modeOk (by rw [phase]; exact running) (by rw [due]; exact next)).cut (by simp [stands.line])

theorem loadLine (h : s.ModeOk) (p : List Byte) : (loadLine p s).state.ModeOk := by
  obtain same | ⟨mode, -, accepted⟩ := loadLine_cases p s
  · rw [same]; exact h
  · rw [accepted]; exact h.acceptLine mode _

theorem resetBlocks_mode : (resetBlocks s).mode = s.mode.lineReset s.inputs.trip := rfl

/-- LINE_RESET under a line record: TRIPPED by the trip input, or STANDBY (R29). -/
theorem ModeControl.lineReset_of_set {m : ModeControl} (trip : Bool) (set : m.mode ≠ .unset) :
    m.lineReset trip = { m with mode := .tripped, cause := .tripInput }
      ∨ m.lineReset trip = { m with mode := .standby, cause := .none } := by
  unfold ModeControl.lineReset
  split
  · next unset => exact absurd unset set
  · split
    · exact .inl rfl
    · exact .inr rfl

/-- The blocks' own resets at LINE_RESET (R29, R73, R142). -/
theorem resetBlocks (h : s.ModeOk) : (resetBlocks s).ModeOk := by
  by_cases hm : s.mode.mode = .unset
  · have mode : (Machine.resetBlocks s).mode = { s.mode with cause := .none } := by
      simp only [Machine.resetBlocks, ModeControl.lineReset, hm]
    have steady : (Machine.resetBlocks s).ModeSteady :=
      { unset_iff := by rw [mode]; exact h.unset_iff
        cause_iff := by rw [mode]; exact ⟨fun c => absurd rfl c, fun c => nomatch hm.symm.trans c⟩
        own := by rw [mode]; exact h.own
        halted_iff := by rw [mode]; exact h.halted_iff
        due_iff := by rw [mode]; exact h.due_iff
        quiet := fun _ => h.quiet hm
        queued := fun c => absurd rfl c
        held := State.held_of_idle rfl }
    exact steady.modeOk fun c => by rw [mode] at c; exact nomatch hm.symm.trans c
  · obtain ⟨l, line, own, phase, due⟩ := h.steady.running hm
    obtain mode | mode := ModeControl.lineReset_of_set s.inputs.trip hm
    all_goals
      have stands : (Machine.resetBlocks s).Stands l :=
        { line := by rw [resetBlocks_mode, mode]; exact line
          set := by rw [resetBlocks_mode, mode]; exact nofun
          settled := by rw [resetBlocks_mode, mode]; exact nofun
          cause := by rw [resetBlocks_mode, mode]; simp
          own := own
          empty := rfl
          idle := rfl }
      exact stands.modeOk phase due

theorem lineReset (h : s.ModeOk) : (lineReset s).state.ModeOk := by
  have ready := h.resetBlocks
  unfold Machine.lineReset
  dsimp only
  split
  · next line => exact (ready.cut (by intro c; simp [c] at line)).store _ _
  · exact ready.store _ _

/-! ## Every command -/

theorem arms (h : s.ModeOk) {t : State} (g : ChannelsOnly s t) : t.ModeOk := by
  rw [g]
  exact h.of_steady (h.steady.congr rfl rfl rfl rfl Iff.rfl rfl (fun _ c => c) (fun c => c) h.held) rfl rfl

theorem ambient (h : s.ModeOk) (x : Option Int) : ({ s with mode := { s.mode with ambient := x } } : State).ModeOk :=
  h.of_steady (h.steady.congr rfl rfl rfl rfl Iff.rfl rfl (fun _ c => c) (fun c => c) h.held) rfl rfl

theorem reset (a b trip : Bool) (q : List Instr) :
    State.ModeOk { State.reset with
      travel := TravelUnit.reset a b
      inputs := { State.reset.inputs with trip := trip }
      pending := q } where
  unset_iff := ⟨fun _ => rfl, fun _ => rfl⟩
  cause_iff := ⟨fun c => absurd rfl c, nofun⟩
  own := rfl
  halted_iff := ⟨fun _ => rfl, fun _ => rfl⟩
  due_iff := ⟨fun _ => rfl, fun _ => rfl⟩
  quiet := fun _ => ⟨rfl, rfl, rfl⟩
  queued := fun c => absurd rfl c
  finishing := nofun
  held_one := fun c => absurd rfl c
  held_two := fun c => absurd rfl c

theorem commandsLead : CommandsLead State.ModeOk State.ModeOk where
  overflow h := linkKept.bump h _
  same h _ f := h.placed f
  loadLine h _ p f := (h.loadLine p).placed f
  modeRun h _ f := h.modeRun.placed f
  modeFinish h _ f := h.modeFinish.placed f
  modeStop h _ f := h.modeStop.placed f
  modeClear h _ f := h.modeClear.placed f
  setAmbient h _ z f := (h.ambient _).placed f
  openClear h _ f := (h.tables (openClear_tablesOnly _)).placed f
  openCopy h _ t begun q := by
    obtain ⟨src, -, -, -, rfl⟩ := openCopy_begun begun
    exact h.store _ _
  writeEntry h _ p f := (h.tables (writeEntry_tablesOnly p _)).placed f
  writeTrims h _ p f := (h.tables (writeTrims_tablesOnly p _)).placed f
  closeBank h _ f := (h.tables (closeBank_tablesOnly _)).placed f
  swapBanks h _ f := (h.tables (swapBanks_tablesOnly _)).placed f
  armRestore h _ c f := (h.arms (armRestore_channelsOnly c _)).placed f
  clearCounters h _ f := (h.store _ _).placed f
  lineReset h _ f := h.lineReset.placed f
  link := linkKept
  weaken h := h
  queue h q := linkKept.queue h q
  portU h u := linkKept.portU h u
  bump h c := linkKept.bump h c
  hardwareReset _ a b trip := reset a b trip _
  scan h p := h.scan p
  void h p := h.void p
  encoder h a b := fieldKept.encoderChange h a b
  speedWindow h := fieldKept.endSpeedWindow h
  dwell h := fieldKept.setDwell h
  pulse h k n := fieldKept.pulseRotor h k n
  silence h k := fieldKept.silenceRotor h k
  eye h k d := h.eye k d
  trip h a := fieldKept.tripLevel h a
  copyItem h := h.moveNextItem

end State.ModeOk

/-- Settles O5: every command keeps what belongs to the mode. -/
theorem modeInvariantKept : Obligations.ModeInvariantKept :=
  fun _ _ ok stepped => State.ModeOk.commandsLead.step ok stepped

end Sys2Proof.Machine
end

section
/-! PROOFS. The Table Store against the counts of the records bound to its banks (R79, R82, R89, R90): a bank's
standing, and the agreement that every operation of the store keeps. -/

namespace Sys2Proof.Machine

/-! ## A bank -/

/-- A bank's standing, for whether the mark names it, whether a copy goes into it, and how many records are bound to it. -/
structure Bank.Stands (x : Bank) (marked copied : Prop) (n : Nat) : Prop where
  active : x.state = .active ↔ marked
  refs : x.refs = n
  retiring : x.state = .retiring → x.refs ≠ 0
  bound : x.refs ≠ 0 → x.state = .active ∨ x.state = .retiring
  copying : x.state = .copying ↔ copied

theorem State.bankOk_iff {s : State} {k : BankId} :
    s.BankOk k ↔ (s.tables.bank k).Stands (s.tables.mark = some k) (s.tables.copy.map CopyEngine.dest = some k)
      (s.tracker.queue.countP (fun r => r.bank == k)) :=
  ⟨fun h => ⟨h.active, h.refs, h.retiring, h.bound, h.copying⟩,
    fun h => ⟨h.active, h.refs, h.retiring, h.bound, h.copying⟩⟩

namespace Bank.Stands

variable {x : Bank} {marked copied : Prop} {n : Nat}

theorem bind (h : x.Stands marked copied n) (hm : marked) :
    ({ x with refs := x.refs + 1 } : Bank).Stands marked copied (n + 1) :=
  ⟨h.active, congrArg (· + 1) h.refs, fun _ => Nat.succ_ne_zero _, fun _ => .inl (h.active.2 hm), h.copying⟩

/-- A record released (R89, R90). -/
theorem release (h : x.Stands marked copied (n + 1)) :
    ({ x with refs := x.refs - 1 } : Bank).settle.Stands marked copied n := by
  have refs := h.refs
  obtain held | retiring := h.bound (by omega)
  · have settled : ({ x with refs := x.refs - 1 } : Bank).settle = { x with refs := n } := by
      simp [Bank.settle, held, refs]
    rw [settled]
    exact ⟨h.active, rfl, fun c => (nomatch held.symm.trans c), fun _ => .inl held, h.copying⟩
  · have unmarked : ¬ marked := fun c => nomatch retiring.symm.trans (h.active.2 c)
    have free : ¬ copied := fun c => nomatch retiring.symm.trans (h.copying.2 c)
    cases n with
    | zero =>
      have settled : ({ x with refs := x.refs - 1 } : Bank).settle = { x with refs := 0, state := .idle } := by
        simp [Bank.settle, retiring, refs]
      rw [settled]
      exact ⟨⟨nofun, fun c => absurd c unmarked⟩, rfl, nofun, fun c => absurd rfl c, ⟨nofun, fun c => absurd c free⟩⟩
    | succ m =>
      have settled : ({ x with refs := x.refs - 1 } : Bank).settle = { x with refs := m + 1 } := by
        simp [Bank.settle, refs]
      rw [settled]
      exact ⟨h.active, rfl, fun _ => Nat.succ_ne_zero m, fun _ => .inr retiring, h.copying⟩

/-- All records released (R22, R90). -/
theorem releaseAll (h : x.Stands marked copied n) : ({ x with refs := 0 } : Bank).settle.Stands marked copied 0 := by
  unfold Bank.settle
  split
  · next settles =>
    have retiring : x.state = .retiring := by simpa using settles
    exact ⟨⟨nofun, fun c => nomatch retiring.symm.trans (h.active.2 c)⟩, rfl, nofun, fun c => absurd rfl c,
      ⟨nofun, fun c => nomatch retiring.symm.trans (h.copying.2 c)⟩⟩
  · next stays =>
    exact ⟨h.active, rfl, fun c => absurd (by simpa using c) stays, fun c => absurd rfl c, h.copying⟩

/-- Only its images changed. -/
theorem images (h : x.Stands marked copied n) (e : List (Option SpeciesEntry)) (t : Option (List Int)) :
    ({ x with entries := e, trims := t } : Bank).Stands marked copied n :=
  ⟨h.active, h.refs, h.retiring, h.bound, h.copying⟩

/-- A bank that no record is bound to, put in a state of its own. -/
theorem restate (h : x.Stands marked copied 0) {y : BankState} {m c : Prop} (active : y = .active ↔ m)
    (retiring : y ≠ .retiring) (copying : y = .copying ↔ c) (e : List (Option SpeciesEntry))
    (t : Option (List Int)) : ({ x with entries := e, trims := t, state := y } : Bank).Stands m c 0 :=
  ⟨active, h.refs, fun c => absurd c retiring, fun c => absurd h.refs c, copying⟩

/-- No record is bound to a bank neither ACTIVE nor RETIRING (R89). -/
theorem unbound (h : x.Stands marked copied n) (active : x.state ≠ .active) (retiring : x.state ≠ .retiring) : n = 0 := by
  by_contra c
  exact (h.bound (fun e => c (h.refs.symm.trans e))).elim active retiring

/-- A bank that a swap passes over (R87). -/
theorem swappedOut (h : x.Stands marked copied n) {m : Prop} (unmarked : ¬ m) : x.swappedOut.Stands m copied n := by
  unfold Bank.swappedOut
  split
  · next ha =>
    have held : x.state = .active := by simpa using ha
    have free : ¬ copied := fun c => nomatch held.symm.trans (h.copying.2 c)
    by_cases none : x.refs = 0
    · simp only [none, beq_self_eq_true, if_true]
      exact ⟨⟨nofun, fun c => absurd c unmarked⟩, h.refs ▸ none.symm, nofun, fun c => absurd rfl c,
        ⟨nofun, fun c => absurd c free⟩⟩
    · simp only [beq_iff_eq, none, if_false]
      exact ⟨⟨nofun, fun c => absurd c unmarked⟩, h.refs, fun _ => none, fun _ => .inr rfl,
        ⟨nofun, fun c => absurd c free⟩⟩
  · next ha =>
    have idle : x.state ≠ .active := by simpa using ha
    exact ⟨⟨fun c => absurd c idle, fun c => absurd c unmarked⟩, h.refs, h.retiring,
      fun c => .inr ((h.bound c).resolve_left idle), h.copying⟩

/-- A bank at LINE_RESET (R95). -/
theorem lineReset (h : x.Stands marked copied n) : x.lineReset.Stands marked False 0 := by
  unfold Bank.lineReset
  split
  · next ha =>
    have held : x.state = .active := by simpa using ha
    exact ⟨h.active, rfl, fun c => (nomatch held.symm.trans c), fun c => absurd rfl c,
      ⟨fun c => (nomatch held.symm.trans c), False.elim⟩⟩
  · next ha =>
    have idle : x.state ≠ .active := by simpa using ha
    exact ⟨⟨nofun, fun c => absurd (h.active.2 c) idle⟩, rfl, nofun, fun c => absurd rfl c, ⟨nofun, False.elim⟩⟩

/-- A bank after hardware reset (R94). -/
theorem reset {m c : Prop} (unmarked : ¬ m) (free : ¬ c) : Bank.reset.Stands m c 0 :=
  ⟨⟨nofun, fun e => absurd e unmarked⟩, rfl, nofun, fun e => absurd (by rfl) e, ⟨nofun, fun e => absurd e free⟩⟩

end Bank.Stands

/-! ## The store -/

/-- The Table Store in agreement with the counts of the records bound to each bank (R79, R82, R89). -/
structure TableStore.Agrees (t : TableStore) (n : BankId → Nat) : Prop where
  bank : ∀ k, (t.bank k).Stands (t.mark = some k) (t.copy.map CopyEngine.dest = some k) (n k)
  source : ∀ c, t.copy = some c → t.mark = some c.source ∧ c.dest = c.source.other

/-- The counts with one bank's replaced. -/
def countsWith (n : BankId → Nat) (k : BankId) (m : Nat) : BankId → Nat := fun j => if j = k then m else n j

namespace TableStore.Agrees

variable {t : TableStore} {n : BankId → Nat}

theorem setBank (h : t.Agrees n) {k : BankId} {x : Bank} {m : Nat}
    (hx : x.Stands (t.mark = some k) (t.copy.map CopyEngine.dest = some k) m) :
    (t.setBank k x).Agrees (countsWith n k m) where
  bank j := by
    rw [TableStore.bank_setBank, TableStore.setBank_mark, TableStore.setBank_copy]
    unfold countsWith
    split
    · next hj => subst hj; exact hx
    · exact h.bank j
  source := by rw [TableStore.setBank_mark, TableStore.setBank_copy]; exact h.source

theorem setBank_same (h : t.Agrees n) {k : BankId} {x : Bank}
    (hx : x.Stands (t.mark = some k) (t.copy.map CopyEngine.dest = some k) (n k)) : (t.setBank k x).Agrees n := by
  have counts : countsWith n k (n k) = n := by
    funext j
    unfold countsWith
    split
    · next hj => rw [hj]
    · rfl
  exact counts ▸ h.setBank hx

/-- The target is neither ACTIVE nor, while it is not COPYING, part of a copy (R75, R82). -/
theorem target (h : t.Agrees n) : (t.bank t.target).state ≠ .active :=
  fun c => target_ne_mark t ((h.bank _).active.1 c)

theorem copy_target (h : t.Agrees n) {c : CopyEngine} (hc : t.copy = some c) :
    (t.bank t.target).state = .copying := by
  obtain ⟨mark, dest⟩ := h.source c hc
  refine (h.bank _).copying.2 ?_
  rw [hc, TableStore.target_eq (k := c.source.other) (.inl (by rw [mark, BankId.other_other])), ← dest]
  rfl

/-- The target, not RETIRING, put in a state of its own outside a copy. -/
theorem retarget (h : t.Agrees n) (copying : (t.bank t.target).state ≠ .copying)
    (retiring : (t.bank t.target).state ≠ .retiring) {y : BankState} (hy : y = .loading ∨ y = .ready)
    (e : List (Option SpeciesEntry)) (x : Option (List Int)) :
    (t.setBank t.target { t.bank t.target with entries := e, trims := x, state := y }).Agrees n := by
  have stands := h.bank t.target
  have none := stands.unbound h.target retiring
  rw [none] at stands
  refine h.setBank_same ?_
  rw [none]
  refine stands.restate ⟨fun c => ?_, fun c => absurd c (target_ne_mark t)⟩ (fun c => ?_)
    ⟨fun c => ?_, fun c => absurd (stands.copying.2 c) copying⟩ e x
  all_goals rw [c] at hy; exact hy.elim nofun nofun

/-- A copy begun (R80, R82). -/
theorem openCopy (h : t.Agrees n) {src : BankId} (mark : t.mark = some src)
    (copying : (t.bank t.target).state ≠ .copying) (retiring : (t.bank t.target).state ≠ .retiring) (now : Nat) :
    ({ t.setBank t.target ((t.bank t.target).clear .copying) with
        copy := some { source := src, dest := t.target, start := now, item := 0 } } : TableStore).Agrees n where
  bank j := by
    have idle : t.copy = none := by
      cases hc : t.copy with
      | none => rfl
      | some c => exact absurd (h.copy_target hc) copying
    have stands := h.bank j
    rw [idle] at stands
    show Bank.Stands ((t.setBank _ _).bank j) ((t.setBank _ _).mark = _) (some t.target = some j) (n j)
    rw [TableStore.bank_setBank, TableStore.setBank_mark]
    split
    · next hj =>
      subst hj
      have none := stands.unbound h.target retiring
      rw [none] at stands ⊢
      exact stands.restate (y := .copying) ⟨nofun, fun c => absurd c (target_ne_mark t)⟩ nofun ⟨fun _ => rfl, fun _ => rfl⟩ _ _
    · next hj =>
      exact ⟨stands.active, stands.refs, stands.retiring, stands.bound,
        ⟨fun c => (nomatch stands.copying.1 c), fun c => absurd (Option.some.inj c).symm hj⟩⟩
  source c hc := by
    obtain rfl := Option.some.inj hc
    rw [TableStore.setBank_mark]
    exact ⟨mark, by simp only [TableStore.target, mark]⟩

/-- A swap to a READY bank (R87). -/
theorem swap (h : t.Agrees n) {k : BankId} (ready : (t.bank k).state = .ready) :
    ({ (t.setBank k { t.bank k with state := .active }).setBank k.other (t.bank k.other).swappedOut with
        mark := some k } : TableStore).Agrees n where
  bank j := by
    have stands := h.bank j
    show Bank.Stands (((t.setBank _ _).setBank _ _).bank j) (some k = some j)
      ((((t.setBank _ _).setBank _ _).copy).map _ = _) (n j)
    rw [TableStore.bank_setBank, TableStore.bank_setBank, TableStore.setBank_copy, TableStore.setBank_copy]
    split
    · next hj =>
      subst hj
      exact stands.swappedOut fun c => BankId.other_ne k (Option.some.inj c).symm
    · next hj =>
      obtain rfl : j = k := by cases j <;> cases k <;> simp [BankId.other] at hj ⊢
      rw [if_pos rfl]
      have none := stands.unbound (by rw [ready]; exact nofun) (by rw [ready]; exact nofun)
      rw [none] at stands ⊢
      exact stands.restate ⟨fun _ => rfl, fun _ => rfl⟩ nofun
        ⟨nofun, fun c => nomatch ready.symm.trans (stands.copying.2 c)⟩ _ _
  source c hc := by
    rw [show (({ (t.setBank k { t.bank k with state := .active }).setBank k.other (t.bank k.other).swappedOut with
        mark := some k } : TableStore).copy) = t.copy by simp] at hc
    obtain ⟨mark, dest⟩ := h.source c hc
    have copying : (t.bank c.dest).state = .copying := (h.bank _).copying.2 (by rw [hc]; rfl)
    have source : k = c.source := by
      by_contra other
      have : k = c.dest := by rw [dest]; cases k <;> cases hs : c.source <;> simp [BankId.other, hs] at other ⊢
      rw [this] at ready
      exact nomatch ready.symm.trans copying
    exact ⟨congrArg some source, dest⟩

/-- The READY bank is one that is READY (R87). -/
theorem readyBank_state {k : BankId} (h : t.readyBank = some k) : (t.bank k).state = .ready := by
  unfold TableStore.readyBank at h
  split at h
  · next ha => obtain rfl := Option.some.inj h; exact beq_iff_eq.1 ha
  · split at h
    · next hb => obtain rfl := Option.some.inj h; exact beq_iff_eq.1 hb
    · cases h

/-- An item moved (R83). -/
theorem moved (h : t.Agrees n) (k : BankId) (item : Nat) (src : Bank) :
    (t.setBank k (moveItem item src (t.bank k))).Agrees n := by
  refine h.setBank_same ?_
  unfold moveItem
  split <;> exact (h.bank k).images _ _

/-- The copy engine at its next item (R83). -/
theorem advance (h : t.Agrees n) {c : CopyEngine} (hc : t.copy = some c) (item : Nat) :
    ({ t with copy := some { c with item := item } } : TableStore).Agrees n where
  bank k := by
    have stands := h.bank k
    rw [hc] at stands
    exact stands
  source d hd := by
    obtain rfl := Option.some.inj hd
    exact h.source c hc

/-- The copy complete (R84). -/
theorem complete (h : t.Agrees n) {c : CopyEngine} (hc : t.copy = some c) :
    ({ t.setBank c.dest { t.bank c.dest with state := .loading } with copy := none } : TableStore).Agrees n where
  bank k := by
    have stands := h.bank k
    rw [hc] at stands
    show Bank.Stands ((t.setBank _ _).bank k) ((t.setBank _ _).mark = _) (none = some k) (n k)
    rw [TableStore.bank_setBank, TableStore.setBank_mark]
    split
    · next hk =>
      subst hk
      have copying := stands.copying.2 rfl
      have none := stands.unbound (by rw [copying]; exact nofun) (by rw [copying]; exact nofun)
      rw [none] at stands ⊢
      exact stands.restate (y := .loading) ⟨nofun, fun c => nomatch copying.symm.trans (stands.active.2 c)⟩ nofun
        ⟨nofun, nofun⟩ _ _
    · next hk =>
      exact ⟨stands.active, stands.refs, stands.retiring, stands.bound,
        ⟨fun e => absurd (Option.some.inj (stands.copying.1 e)).symm hk, nofun⟩⟩
  source d hd := nomatch hd

theorem releaseAll (h : t.Agrees n) : t.releaseAll.Agrees (fun _ => 0) where
  bank
    | .a => (h.bank .a).releaseAll
    | .b => (h.bank .b).releaseAll
  source := h.source

theorem lineReset (h : t.Agrees n) : t.lineReset.Agrees (fun _ => 0) where
  bank k := by
    have stands := (h.bank k).lineReset
    cases k <;> exact ⟨stands.active, stands.refs, stands.retiring, stands.bound,
      ⟨fun c => (stands.copying.1 c).elim, nofun⟩⟩
  source _ hd := nomatch hd

end TableStore.Agrees

end Sys2Proof.Machine
end

section
/-! PROOFS. The Table Store, the log queue and the ENGAGED stations in agreement through every step (R72, R79, R82, R89,
R117, R169; log 31): the agreement with ENGAGED carried where it is known, with a record in withdrawal left out of it
until its stations are set IDLE. -/

namespace Sys2Proof.Machine

/-! ## The agreement -/

/-- How many queued records are bound to each bank (R89). -/
def State.boundTo (s : State) : BankId → Nat := fun k => s.tracker.queue.countP (fun r => r.bank == k)

theorem State.TablesOk.agrees {s : State} (h : s.TablesOk) : s.tables.Agrees s.boundTo where
  bank
    | .a => State.bankOk_iff.1 h.bank_a
    | .b => State.bankOk_iff.1 h.bank_b
  source := h.source

theorem State.TablesOk.of_agrees {s : State} (h : s.tables.Agrees s.boundTo)
    (working : s.mode.mode.works = true → s.tables.mark ≠ none)
    (flight : s.requests.inFlight.isSome = s.tables.copy.isSome)
    (fresh : ∀ r ∈ s.tracker.queue, r.id < s.tracker.nextId) (distinct : (s.tracker.queue.map LogRecord.id).Nodup) :
    s.TablesOk :=
  ⟨State.bankOk_iff.2 (h.bank .a), State.bankOk_iff.2 (h.bank .b), h.source, working, flight, fresh, distinct⟩

/-- What the agreement is read from. -/
theorem State.TablesOk.congr {s t : State} (h : s.TablesOk) (works : t.mode.mode.works = true → s.mode.mode.works = true)
    (tables : t.tables = s.tables) (queue : t.tracker.queue = s.tracker.queue)
    (next : t.tracker.nextId = s.tracker.nextId)
    (flight : t.requests.inFlight = s.requests.inFlight) : t.TablesOk := by
  have agrees := h.agrees
  refine .of_agrees ?_ (fun w => tables ▸ h.working (works w)) ?_ ?_ ?_
  · unfold State.boundTo at *
    rw [tables, queue]
    exact agrees
  · rw [flight, tables]; exact h.flight
  · rw [queue, next]; exact h.fresh
  · rw [queue]; exact h.distinct

/-- A station is ENGAGED with a record in withdrawal, or with a queued record confirmed and tracked there. -/
def State.EngagedBut (x : Option Nat) (s : State) : Prop :=
  ∀ k id, s.arms.stations.get k = .engaged id → x ≠ some id → ∃ r ∈ s.tracker.queue, r.id = id ∧ r.held k

/-- The Table Store in agreement and, where e holds, every station but those ENGAGED with a record in withdrawal. -/
structure State.Bound (e : Prop) (x : Option Nat) (s : State) : Prop where
  tables : s.TablesOk
  engaged : e → s.EngagedBut x

/-- The queued records have distinct numbers, so that a number finds its record. -/
theorem State.TablesOk.record?_of_mem {s : State} (h : s.TablesOk) {r : LogRecord} (hr : r ∈ s.tracker.queue) :
    s.record? r.id = some r := by
  have distinct := h.distinct
  unfold State.record?
  revert distinct hr
  induction s.tracker.queue with
  | nil => exact nofun
  | cons x q ih =>
    intro hr distinct
    rw [List.find?_cons]
    obtain rfl | tail := List.mem_cons.1 hr
    · simp
    · obtain ⟨notin, rest⟩ := List.nodup_cons.1 distinct
      have other : (x.id == r.id) = false := beq_eq_false_iff_ne.2 fun same =>
        notin (same ▸ List.mem_map_of_mem tail)
      rw [other]
      exact ih tail rest

/-- A queued record taken out of a queue of distinct numbers. -/
theorem perm_filter_id {q : List LogRecord} (distinct : (q.map LogRecord.id).Nodup) {r : LogRecord} (hr : r ∈ q) :
    q.Perm (r :: q.filter (fun x => x.id != r.id)) := by
  have same : q.erase r = q.filter (fun x => x.id != r.id) := by
    rw [(List.Nodup.of_map _ distinct).erase_eq_filter]
    refine List.filter_congr fun x hx => ?_
    rw [Bool.eq_iff_iff, bne_iff_ne, bne_iff_ne, ne_eq, ne_eq, not_iff_not]
    exact ⟨congrArg _, List.inj_on_of_nodup_map distinct hx hr⟩
  rw [← same]
  exact List.perm_cons_erase hr

namespace State.Bound

variable {e : Prop} {x : Option Nat} {s t : State}

theorem congr (h : s.Bound e x) (works : t.mode.mode.works = true → s.mode.mode.works = true)
    (tables : t.tables = s.tables) (queue : t.tracker.queue = s.tracker.queue)
    (next : t.tracker.nextId = s.tracker.nextId) (stations : t.arms.stations = s.arms.stations)
    (flight : t.requests.inFlight = s.requests.inFlight) : t.Bound e x where
  tables := h.tables.congr works tables queue next flight
  engaged he := by
    unfold State.EngagedBut
    rw [stations, queue]
    exact h.engaged he

theorem linkKept : LinkKept (State.Bound e x) :=
  LinkKept.of_linkFrame fun h g =>
    h.congr (by rw [g.mode]; exact id) g.tables (by rw [g.tracker]) (by rw [g.tracker]) g.stations g.inFlight

/-- One record changed that keeps its number, its bank and its hold (R48, R117). -/
theorem change (h : s.Bound e x) {id : Nat} {f : LogRecord → LogRecord} (hid : ∀ r, (f r).id = r.id)
    (hbank : ∀ r, (f r).bank = r.bank) (held : ∀ r, s.record? id = some r → ∀ k, r.held k → (f r).held k) :
    (s.update id f).Bound e x where
  tables := by
    refine .of_agrees ?_ h.tables.working h.tables.flight (fun r hr => ?_) ?_
    · have counts : (s.update id f).boundTo = s.boundTo := funext fun k => updateRecord_countP hbank k _
      rw [counts]
      exact h.tables.agrees
    · obtain ⟨y, hy, rfl⟩ := List.mem_map.1 hr
      have old := h.tables.fresh y hy
      split
      · rw [hid]; exact old
      · exact old
    · rw [State.update_tracker_queue, updateRecord_ids hid]; exact h.tables.distinct
  engaged he k j hk hx := by
    obtain ⟨r, hr, rfl, hold⟩ := h.engaged he k j hk hx
    refine ⟨_, mem_updateRecord hr, ?_, ?_⟩
    · split
      · exact hid r
      · rfl
    · split
      · next same =>
        have found := h.tables.record?_of_mem hr
        rw [beq_iff_eq.1 same] at found
        exact held r found k hold
      · exact hold

/-- A station that is IDLE or in LOCKOUT, or ENGAGED with a record that it may hold. -/
theorem station (h : s.Bound e x) {t : State} (only : ArmsOnly s t) {k : Station} {y : StationState}
    (stations : t.arms.stations = s.arms.stations.set k y)
    (hy : ∀ id, y = .engaged id → ∃ r ∈ s.tracker.queue, r.id = id ∧ r.held k) : t.Bound e x where
  tables := by
    rw [only]
    exact h.tables.congr id rfl rfl rfl rfl
  engaged he j id hj hx := by
    rw [stations, Pair.get_set] at hj
    have queue : t.tracker.queue = s.tracker.queue := by rw [only]
    rw [queue]
    split at hj
    · next same => exact same ▸ hy id hj
    · exact h.engaged he j id hj hx

theorem idle (h : s.Bound e x) (k : Station) : (enterIdle k s).Bound e x :=
  h.station (enterIdle_armsOnly k s) (enterIdle_stations k s) nofun

/-! ## Removal -/

/-- A record taken from the queue and released from its bank (R72, R90). -/
theorem taken (h : s.Bound e none) {id : Nat} {r : LogRecord} (hr : s.record? id = some r) :
    (releaseBank { s with tracker := { s.tracker with queue := s.tracker.queue.filter (fun x => x.id != id) } }
      r.bank).Bound e (some id) where
  tables := by
    obtain ⟨queued, rfl⟩ := State.record?_some hr
    have split := perm_filter_id h.tables.distinct queued
    have agrees := h.tables.agrees
    have counts : ∀ k, s.boundTo k
        = (s.tracker.queue.filter (fun x => x.id != r.id)).countP (fun y => y.bank == k) + if r.bank = k then 1 else 0 := by
      intro k
      simp only [State.boundTo, split.countP_eq, List.countP_cons, beq_iff_eq]
    have standing := agrees.bank r.bank
    rw [counts, if_pos rfl] at standing
    refine .of_agrees ?_ ?_ ?_ (fun x hx => h.tables.fresh x (List.mem_of_mem_filter hx))
      (h.tables.distinct.sublist (List.filter_sublist.map _))
    · have store := agrees.setBank standing.release
      have bound : countsWith s.boundTo r.bank
          ((s.tracker.queue.filter (fun x => x.id != r.id)).countP (fun y => y.bank == r.bank))
          = fun k => (s.tracker.queue.filter (fun x => x.id != r.id)).countP (fun y => y.bank == k) := by
        funext k
        unfold countsWith
        split
        · next hk => rw [hk]
        · next hk => rw [counts, if_neg (Ne.symm hk), Nat.add_zero]
      rw [bound] at store
      exact store
    · intro w
      simpa [releaseBank] using h.tables.working w
    · simpa [releaseBank] using h.tables.flight
  engaged he k j hk hx := by
    obtain ⟨y, hy, number, hold⟩ := h.engaged he k j hk nofun
    refine ⟨y, List.mem_filter.2 ⟨hy, ?_⟩, number, hold⟩
    rw [number]
    simpa using fun same : j = id => hx (same ▸ rfl)

/-- With its stations set IDLE nothing stays ENGAGED with a record withdrawn (log 31). -/
theorem dropped {id : Nat} (h : s.Bound e (some id)) : (dropEngaged id .two (dropEngaged id .one s)).Bound e none := by
  have step : ∀ {u : State} (k : Station), u.Bound e (some id) → (dropEngaged id k u).Bound e (some id) := by
    intro u k hu
    unfold dropEngaged
    split
    · exact hu.idle k
    · exact hu
  have both := step .two (step .one h)
  have other : (dropEngaged id .two (dropEngaged id .one s)).arms.stations.get .one
      = (dropEngaged id .one s).arms.stations.get .one := by
    rw [dropEngaged]
    split
    · rw [enterIdle_stations, Pair.get_set, if_neg nofun]
    · rfl
  have free : ∀ k, (dropEngaged id .two (dropEngaged id .one s)).arms.stations.get k ≠ .engaged id
    | .one => other ▸ dropEngaged_stations id .one s
    | .two => dropEngaged_stations id .two _
  refine ⟨both.tables, fun he k j hk _ => both.engaged he k j hk fun same => ?_⟩
  obtain rfl := Option.some.inj same
  exact free k hk

/-- A change of mode into one that works no more, with the stations set IDLE (R19, R22). -/
theorem rested (h : s.Bound e x) (m : ModeControl) (rests : m.mode.works = true → s.mode.mode.works = true) :
    (stationsIdle { s with mode := m }).Bound e x := by
  have only := stationsIdle_armsOnly { s with mode := m }
  have stations := stationsIdle_stations { s with mode := m }
  refine ⟨?_, fun _ k id hk => ?_⟩
  · rw [only]; exact h.tables.congr rests rfl rfl rfl rfl
  · rw [stations] at hk
    cases k <;> exact nomatch hk

theorem endFinishing (h : s.Bound e x) : (endFinishing s).Bound e x := by
  unfold Machine.endFinishing
  split
  · exact h.rested _ nofun
  · exact h

theorem remove (h : s.Bound e none) (l : Line) (id : Nat) (why : Removal) : (removeRecord l id why s).Bound e none := by
  cases hr : s.record? id with
  | none => rw [removeRecord_of_none hr]; exact h
  | some r =>
    have gone := h.taken hr
    have counted : ∀ {t : State}, t.Bound e (some id) → (t.bump? why.counter?).Bound e (some id) :=
      fun ht => linkKept.bump? ht _
    have examined : ∀ {t : State} (k : Station), t.Bound e none → (examineLockout k t).Bound e none := by
      intro t k ht
      unfold examineLockout
      split
      · exact ht.idle k
      · exact ht
    rw [removeRecord_of_some hr]
    refine endFinishing (examined .two (examined .one (dropped (counted ?_))))
    dsimp only
    split
    · split
      · exact gone.change (fun _ => rfl) (fun _ => rfl) fun _ _ k => by cases k <;> exact fun hold => hold
      · exact gone
    · exact gone

/-! ## Every command of the field -/

/-- The queue flushed (R22). -/
theorem flushed (h : s.Bound e x) (m : ModeControl) (rests : m.mode.works = true → s.mode.mode.works = true) :
    (flush { s with mode := m }).Bound e x := by
  have emptied : State.Bound e x { s with
      tracker := { s.tracker with queue := [] }, tables := s.tables.releaseAll,
      arms := { s.arms with stations := { one := .idle, two := .idle } } } :=
    { tables := by
        refine .of_agrees ?_ h.tables.working h.tables.flight (fun _ hr => nomatch hr) List.nodup_nil
        exact h.tables.agrees.releaseAll
      engaged := fun _ k id hk => by cases k <;> exact nomatch hk }
  unfold flush
  have only := stationsIdle_armsOnly { s with
    mode := m, tracker := { s.tracker with queue := [] }, tables := s.tables.releaseAll }
  have stations := stationsIdle_stations { s with
    mode := m, tracker := { s.tracker with queue := [] }, tables := s.tables.releaseAll }
  rw [only] at stations ⊢
  exact emptied.congr rests rfl rfl rfl stations rfl

theorem cut (h : s.Bound e x) : (cutCycle s).Bound e x := by
  have g := cutCycle_cycleFrame s
  exact h.congr (by rw [g.mode]; exact id) g.tables (by rw [g.tracker]) (by rw [g.tracker]) g.stations g.inFlight

theorem fieldKept : FieldKept (State.Bound e none) where
  count h c := linkKept.bump h c
  update h _ _ same held := h.change (fun r => (same r).id) (fun r => (same r).bank) held
  idle h k := h.idle k
  engage {s} h k id r _ queued number held := h.station (setStation_armsOnly s k _) (s.setStation_arms_stations k _)
    fun j same => ⟨r, queued, number.trans (StationState.engaged.inj same), held⟩
  lock {s} h k _ := h.station (setStation_armsOnly s k _) (s.setStation_arms_stations k _) nofun
  remove h l id why := h.remove l id why
  clock h n := linkKept.clock h n
  travel h _ := h.congr id rfl rfl rfl rfl rfl
  inputs h _ := h.congr id rfl rfl rfl rfl rfl
  faulted h _ := h.congr id rfl rfl rfl rfl rfl
  trip {s} h c _ := by
    unfold Machine.trip
    split
    · exact h
    · exact h
    · exact cut (h.flushed _ nofun)

/-! ## New records -/

/-- A record come into the queue in RUN under the next number, bound to the ACTIVE bank (R54, R62). -/
theorem arrives (h : s.Bound e x) (run : s.mode.mode = .run) {r : LogRecord} {q : List LogRecord}
    (perm : q.Perm (r :: s.tracker.queue)) (number : r.id = s.tracker.nextId) (bank : r.bank = s.tables.bindTo) :
    (bindBank { s with tracker := { s.tracker with queue := q, nextId := s.tracker.nextId + 1 } } r.bank).Bound e x where
  tables := by
    have marked : s.tables.mark = some r.bank := by
      have working := h.tables.working (by rw [run]; rfl)
      rw [bank, TableStore.bindTo]
      cases hm : s.tables.mark with
      | none => exact absurd hm working
      | some k => rfl
    have old : ∀ y ∈ s.tracker.queue, y.id < s.tracker.nextId := h.tables.fresh
    refine .of_agrees ?_ ?_ ?_ (fun y hy => ?_) ?_
    · have store := h.tables.agrees.setBank ((h.tables.agrees.bank r.bank).bind marked)
      have bound : countsWith s.boundTo r.bank (s.boundTo r.bank + 1) = fun k => q.countP (fun y => y.bank == k) := by
        funext k
        rw [perm.countP_eq, List.countP_cons]
        unfold countsWith
        split
        · next hk => subst hk; simp [State.boundTo]
        · next hk => simp [State.boundTo, Ne.symm hk]
      rw [bound] at store
      exact store
    · simpa [bindBank] using h.tables.working
    · simpa [bindBank] using h.tables.flight
    · obtain rfl | tail := List.mem_cons.1 (perm.mem_iff.1 hy)
      · rw [number]; exact Nat.lt_succ_self _
      · exact Nat.lt_succ_of_lt (old y tail)
    · rw [show (bindBank _ r.bank).tracker.queue = q from rfl, (perm.map _).nodup_iff]
      refine List.nodup_cons.2 ⟨fun again => ?_, h.tables.distinct⟩
      obtain ⟨y, hy, same⟩ := List.mem_map.1 again
      have := old y hy
      omega
  engaged he k j hk hx := by
    obtain ⟨y, hy, rest⟩ := h.engaged he k j hk hx
    exact ⟨y, perm.mem_iff.2 (List.mem_cons_of_mem _ hy), rest⟩

theorem scan (h : s.Bound e none) (p : List Byte) : (takeScan p s).Bound e none := by
  unfold takeScan
  split
  · next l run _ =>
    split
    · dsimp only
      split
      · exact linkKept.bump h _
      · split
        · exact linkKept.bump h _
        · exact fieldKept.rejoin (h.arrives run (List.perm_append_singleton _ _) rfl rfl) _ _ _
    · exact linkKept.bump h _
  · exact linkKept.bump h _

theorem void (h : s.Bound e none) (p : List Byte) : (takeVoid p s).Bound e none := by
  unfold takeVoid
  split
  · exact h.remove _ _ _
  · exact linkKept.bump h _

theorem insertRecord_perm (r : LogRecord) (q : List LogRecord) : (insertRecord r q).Perm (r :: q) := by
  induction q with
  | nil => exact .refl _
  | cons y q ih =>
    unfold insertRecord
    split
    · exact .refl _
    · exact (ih.cons y).trans (.swap r y q)

theorem eye (h : s.Bound e none) (k : Station) (d : Bool) : (eyeChange k d s).Bound e none := by
  have lit : (s.onEye k (fun e => { e with dark := true, darkSince := some s.travel.t })).Bound e none :=
    fieldKept.inputs h _
  refine fieldKept.eyeChange h k d { rebased := fun _ r _ found _ => ?_, added := fun l _ run _ _ => ?_ }
  · refine (lit.change (fun x => x.setAt_id k _) (fun x => x.setAt_bank k _) ?_).change (fun _ => rfl) (fun _ => rfl) ?_
    · exact fun x _ j hold => LogRecord.held_setAt (by exact fun held => ⟨Confirmed.noConfusion, held.2⟩) hold
    · exact fun _ _ j => by cases j <;> exact fun hold => hold
  · exact fieldKept.count (fieldKept.rejoinSuccessor (fieldKept.rejoin
      (lit.arrives run (insertRecord_perm _ _) rfl rfl) _ _ _) _ _) _

/-! ## Requests -/

theorem placed (h : s.Bound e x) (f : Frame) : (s.placeReply f).Bound e x := h.congr id rfl rfl rfl rfl rfl

/-- A change of the Table Store alone that keeps its agreement, its mark's presence and its copy. -/
theorem store (h : s.Bound e x) {u : TableStore} (agrees : u.Agrees s.boundTo)
    (mark : s.tables.mark ≠ none → u.mark ≠ none) (copy : u.copy = s.tables.copy) :
    ({ s with tables := u } : State).Bound e x where
  tables := .of_agrees agrees (fun w => mark (h.tables.working w)) (by rw [copy]; exact h.tables.flight)
    h.tables.fresh h.tables.distinct
  engaged := h.engaged

/-- The target alone replaced. -/
theorem restored (h : s.Bound e x) {b : Bank} (agrees : (s.tables.setBank s.tables.target b).Agrees s.boundTo) :
    (s.setBank s.tables.target b).Bound e x :=
  h.store agrees (by rw [TableStore.setBank_mark]; exact fun m => m) (TableStore.setBank_copy _ _ _)

theorem openClear (h : s.Bound e x) : (openClear s).state.Bound e x := by
  unfold Machine.openClear
  dsimp only
  split
  · exact h
  · exact h
  · next copying retiring =>
    exact h.restored (h.tables.agrees.retarget copying retiring (.inl rfl) _ _)

theorem openCopy (h : s.Bound e x) {t : State} (begun : openCopy s = (t, none)) (q : InFlight) :
    ({ t with requests := { t.requests with inFlight := some q } } : State).Bound e x := by
  obtain ⟨src, mark, copying, retiring, rfl⟩ := openCopy_begun begun
  refine ⟨.of_agrees (h.tables.agrees.openCopy mark copying retiring s.now) ?_ rfl h.tables.fresh h.tables.distinct,
    h.engaged⟩
  intro w
  simpa using h.tables.working w

/-- A LOADING target whose images are written (R85). -/
theorem written (h : s.Bound e x) (en : List (Option SpeciesEntry)) (tr : Option (List Int)) :
    (s.setBank s.tables.target { s.tables.bank s.tables.target with entries := en, trims := tr }).Bound e x :=
  h.restored (h.tables.agrees.setBank_same ((h.tables.agrees.bank _).images en tr))

theorem writeEntry (h : s.Bound e x) (p : List Byte) : (writeEntry p s).state.Bound e x := by
  unfold Machine.writeEntry
  dsimp only
  split
  · split
    · exact h
    · exact h.written _ _
  · exact h
  · exact h

theorem writeTrims (h : s.Bound e x) (p : List Byte) : (writeTrims p s).state.Bound e x := by
  unfold Machine.writeTrims
  dsimp only
  split
  · split
    · exact h
    · exact h.written _ _
  · exact h
  · exact h

theorem closeBank (h : s.Bound e x) : (closeBank s).state.Bound e x := by
  unfold Machine.closeBank
  dsimp only
  split
  · next loading =>
    split
    · exact h.restored (h.tables.agrees.retarget (by rw [loading]; exact nofun) (by rw [loading]; exact nofun)
        (.inr rfl) _ _)
    · exact h
  · exact h
  · exact h

theorem swapBanks (h : s.Bound e x) : (swapBanks s).state.Bound e x := by
  unfold Machine.swapBanks
  split
  · exact h
  · next k ready =>
    refine h.store (h.tables.agrees.swap (TableStore.Agrees.readyBank_state ready)) (fun _ => nofun) ?_
    simp

theorem moveNextItem (h : s.Bound e x) : (moveNextItem s).Bound e x := by
  unfold Machine.moveNextItem
  split
  · exact h
  · next c hc =>
    have moved := h.tables.agrees.moved c.dest c.item (s.tables.bank c.source)
    have copy : (s.tables.setBank c.dest (moveItem c.item (s.tables.bank c.source) (s.tables.bank c.dest))).copy
        = some c := (TableStore.setBank_copy _ _ _).trans hc
    have working : s.mode.mode.works = true → (s.tables.setBank c.dest
        (moveItem c.item (s.tables.bank c.source) (s.tables.bank c.dest))).mark ≠ none := by
      rw [TableStore.setBank_mark]; exact h.tables.working
    have flight := h.tables.flight
    dsimp only
    split
    · refine ⟨.of_agrees (moved.advance copy (c.item + 1)) working ?_ h.tables.fresh h.tables.distinct, h.engaged⟩
      exact flight.trans (by rw [hc]; rfl)
    · have complete : State.Bound e x { s.reach c.due with
          tables := { (s.tables.setBank c.dest (moveItem c.item (s.tables.bank c.source) (s.tables.bank c.dest))).setBank
              c.dest { (s.tables.setBank c.dest (moveItem c.item (s.tables.bank c.source) (s.tables.bank c.dest))).bank
                c.dest with state := .loading } with copy := none }
          requests := { s.requests with inFlight := none } } := by
        refine ⟨.of_agrees (moved.complete copy) ?_ rfl h.tables.fresh h.tables.distinct, h.engaged⟩
        intro w
        simpa using working w
      unfold copyComplete
      dsimp only
      split
      · next none => exact complete.congr id rfl rfl rfl rfl none
      · exact complete.congr id rfl rfl rfl rfl rfl

theorem resetBlocks (h : s.Bound e x) (flight : Option InFlight) (none : flight = none) :
    ({ resetBlocks s with requests := { s.requests with inFlight := flight } } : State).Bound e x where
  tables := by
    refine .of_agrees h.tables.agrees.lineReset (fun w => h.tables.working ?_) (by rw [none]; rfl)
      (fun _ hr => nomatch hr) List.nodup_nil
    change (s.mode.lineReset s.inputs.trip).mode.works = true at w
    unfold ModeControl.lineReset at w
    split at w
    · exact w
    · split at w <;> exact nomatch w
  engaged _ k id hk := by cases k <;> exact nomatch hk

theorem lineReset (h : s.Bound e x) : (lineReset s).state.Bound e x := by
  have g := resetBlocks_cut_cycleFrame s
  exact (h.resetBlocks none rfl).congr (by exact fun w => by rw [← g.mode]; exact w) g.tables
    (congrArg LogTracker.queue g.tracker) (congrArg LogTracker.nextId g.tracker) g.stations rfl

/-! ## Every command -/

theorem modes (h : s.Bound e x) (m : ModeControl) (works : m.mode.works = true → s.tables.mark ≠ none) :
    ({ s with mode := m } : State).Bound e x :=
  ⟨.of_agrees h.tables.agrees works h.tables.flight h.tables.fresh h.tables.distinct, h.engaged⟩

theorem acceptLine (h : s.Bound e none) (r : LineRecord) : (acceptLine r s).Bound e none := by
  rw [acceptLine_eq]
  have lined : State.Bound e none { s with mode := { s.mode with line := some { record := r, counts := lineCounts r } } } :=
    h.congr id rfl rfl rfl rfl rfl
  have moded : ∀ t : State, t.Bound e none → (acceptMode t).Bound e none := by
    intro t ht
    obtain same | ⟨c, -, flushed⟩ := acceptMode_cases t
    · rw [same]; exact ht.modes _ nofun
    · rw [flushed]; exact ht.flushed _ nofun
  obtain ⟨eyes, marks, inputs⟩ := acceptInputs_cases { record := r, counts := lineCounts r }
    (acceptMode { s with mode := { s.mode with line := some { record := r, counts := lineCounts r } } })
  have ready := moded _ lined
  dsimp only
  rw [inputs]
  split
  · exact linkKept.start (ready.congr (by exact fun w => w) rfl rfl rfl rfl rfl)
  · exact cut (ready.congr (by exact fun w => w) rfl rfl rfl rfl rfl)

theorem loadLine (h : s.Bound e none) (p : List Byte) : (loadLine p s).state.Bound e none := by
  obtain same | ⟨-, -, accepted⟩ := loadLine_cases p s
  · rw [same]; exact h
  · rw [accepted]; exact h.acceptLine _

theorem modeRun (h : s.Bound e none) : (modeRun s).state.Bound e none := by
  obtain same | ⟨-, marked, entered⟩ := modeRun_cases s
  · rw [same]; exact h
  · have run : (s.setMode .run).Bound e none := h.modes _ fun _ none => by simp [none] at marked
    rw [entered]
    exact fieldKept.stationAtRun (fieldKept.stationAtRun run .one) .two

theorem modeFinish (h : s.Bound e none) : (modeFinish s).state.Bound e none := by
  obtain same | ⟨run, begun⟩ := modeFinish_cases s
  · rw [same]; exact h
  · rw [begun]
    exact endFinishing (h.modes _ fun _ => h.tables.working (by rw [run]; rfl))

theorem modeStop (h : s.Bound e none) : (modeStop s).state.Bound e none := by
  obtain same | ⟨-, stopped⟩ := modeStop_cases s
  · rw [same]; exact h
  · rw [stopped]; exact h.flushed _ nofun

theorem modeClear (h : s.Bound e none) : (modeClear s).state.Bound e none := by
  obtain same | ⟨-, left⟩ := modeClear_cases s
  · rw [same]; exact h
  · rw [left]; exact h.congr nofun rfl rfl rfl rfl rfl

theorem reset (e : Prop) (a b trip : Bool) (q : List Instr) :
    State.Bound e none { State.reset with
      travel := TravelUnit.reset a b
      inputs := { State.reset.inputs with trip := trip }
      pending := q } where
  tables := by
    refine .of_agrees ⟨fun k => ?_, fun _ hc => nomatch hc⟩ (fun w => nomatch w) rfl (fun _ hr => nomatch hr)
      List.nodup_nil
    cases k
    · exact Bank.Stands.reset (fun c => nomatch c) fun c => nomatch c
    · exact Bank.Stands.reset (fun c => nomatch c) fun c => nomatch c
  engaged _ k id hk := by cases k <;> exact nomatch hk

theorem commandsLead : CommandsLead (State.Bound e none) (State.Bound e none) where
  overflow h := linkKept.bump h _
  same h _ f := h.placed f
  loadLine h _ p f := (h.loadLine p).placed f
  modeRun h _ f := h.modeRun.placed f
  modeFinish h _ f := h.modeFinish.placed f
  modeStop h _ f := h.modeStop.placed f
  modeClear h _ f := h.modeClear.placed f
  setAmbient h _ z f := h.congr id rfl rfl rfl rfl rfl
  openClear h _ f := h.openClear.placed f
  openCopy h _ t begun q := h.openCopy begun q
  writeEntry h _ p f := (h.writeEntry p).placed f
  writeTrims h _ p f := (h.writeTrims p).placed f
  closeBank h _ f := h.closeBank.placed f
  swapBanks h _ f := h.swapBanks.placed f
  armRestore h _ c f := by
    rw [armRestore_channelsOnly c]
    exact h.congr id rfl rfl rfl rfl rfl
  clearCounters h _ f := h.congr id rfl rfl rfl rfl rfl
  lineReset h _ f := h.lineReset.placed f
  link := linkKept
  weaken h := h
  queue h q := linkKept.queue h q
  portU h u := linkKept.portU h u
  bump h c := linkKept.bump h c
  hardwareReset _ a b trip := reset _ a b trip _
  scan h p := h.scan p
  void h p := h.void p
  encoder h a b := fieldKept.encoderChange h a b
  speedWindow h := fieldKept.endSpeedWindow h
  dwell h := fieldKept.setDwell h
  pulse h k n := fieldKept.pulseRotor h k n
  silence h k := fieldKept.silenceRotor h k
  eye h k d := h.eye k d
  trip h a := fieldKept.tripLevel h a
  copyItem h := h.moveNextItem

end State.Bound

theorem State.TablesOk.bound {s : State} (h : s.TablesOk) : s.Bound s.EngagedOk none :=
  ⟨h, fun engaged k id hk _ => engaged k id hk⟩

/-- Settles O6: the agreement is carried with ENGAGED as far as the first state has it. -/
theorem tableInvariantKept : Obligations.TableInvariantKept := fun _ _ ok stepped =>
  have kept := State.Bound.commandsLead.step ok.bound stepped
  ⟨kept.tables, fun engaged k id hk => kept.engaged engaged k id hk nofun⟩

end Sys2Proof.Machine
end

section
/-! PROOFS. The images of a bank that records are bound to (R91): the Log Tracker and the link never write an image, and
the Table Store writes only to a bank that no record is bound to. -/

namespace Sys2Proof.Machine

@[simp] theorem Bank.settle_entries (x : Bank) : x.settle.entries = x.entries := by
  unfold Bank.settle; split <;> rfl

@[simp] theorem Bank.settle_trims (x : Bank) : x.settle.trims = x.trims := by
  unfold Bank.settle; split <;> rfl

@[simp] theorem Bank.swappedOut_entries (x : Bank) : x.swappedOut.entries = x.entries := by
  unfold Bank.swappedOut; split <;> rfl

@[simp] theorem Bank.swappedOut_trims (x : Bank) : x.swappedOut.trims = x.trims := by
  unfold Bank.swappedOut; split <;> rfl

/-- Every bank's entries and trim table are those of another store (R74). -/
def TableStore.SameImages (u t : TableStore) : Prop :=
  ∀ k, (t.bank k).entries = (u.bank k).entries ∧ (t.bank k).trims = (u.bank k).trims

/-- A bank's entries and trim table are those of another store, or no record is bound to it. -/
def TableStore.KeepsImages (u : TableStore) (k : BankId) (t : TableStore) : Prop :=
  (t.bank k).entries = (u.bank k).entries ∧ (t.bank k).trims = (u.bank k).trims ∨ (t.bank k).refs = 0

namespace TableStore

variable {u t : TableStore} {k : BankId}

theorem SameImages.keeps (h : u.SameImages t) : u.KeepsImages k t := .inl (h k)

/-- A bank replaced by one with its images. -/
theorem SameImages.setBank (h : u.SameImages t) {x : Bank} (entries : x.entries = (t.bank k).entries)
    (trims : x.trims = (t.bank k).trims) : u.SameImages (t.setBank k x) := by
  intro j
  rw [TableStore.bank_setBank]
  split
  · next hj => subst hj; exact ⟨entries.trans (h j).1, trims.trans (h j).2⟩
  · exact h j

theorem SameImages.releaseAll (h : u.SameImages t) : u.SameImages t.releaseAll := by
  intro k
  cases k
  · exact ⟨(Bank.settle_entries _).trans (h .a).1, (Bank.settle_trims _).trans (h .a).2⟩
  · exact ⟨(Bank.settle_entries _).trans (h .b).1, (Bank.settle_trims _).trans (h .b).2⟩

/-- Another bank replaced. -/
theorem keepsImages_setBank {j : BankId} (other : j ≠ k) (x : Bank) : u.KeepsImages k (u.setBank j x) := by
  refine .inl ?_
  rw [TableStore.bank_setBank, if_neg (Ne.symm other)]
  exact ⟨rfl, rfl⟩

end TableStore

namespace State

variable {u : TableStore} {s : State}

/-- A state whose banks hold the images of a store. -/
def Images (u : TableStore) (s : State) : Prop := u.SameImages s.tables

namespace Images

theorem removalKept : RemovalKept (State.Images u) where
  gone h _ := h
  bank {s} h k := TableStore.SameImages.setBank h (by simp) (by simp)
  bump h _ := h
  joined h _ _ _ := h
  idle {s} h k := by rw [enterIdle_armsOnly]; exact h

theorem endFinishing (h : s.Images u) : (endFinishing s).Images u := by
  unfold Machine.endFinishing
  split
  · rw [stationsIdle_armsOnly]; exact h
  · exact h

theorem flushed (h : s.Images u) (m : ModeControl) : (flush { s with mode := m }).Images u := by
  unfold flush
  rw [stationsIdle_armsOnly]
  exact TableStore.SameImages.releaseAll h

theorem cut (h : s.Images u) : (cutCycle s).Images u := by
  unfold State.Images
  rw [(cutCycle_cycleFrame s).tables]
  exact h

theorem fieldKept : FieldKept (State.Images u) where
  count h _ := h
  update h _ _ _ _ := h
  idle h k := removalKept.idle h k
  engage h _ _ _ _ _ _ _ := h
  lock h _ _ := h
  remove h l id why := removalKept.removeRecord endFinishing h l id why
  clock h _ := h
  travel h _ := h
  inputs h _ := h
  faulted h _ := h
  trip h c _ := by
    unfold Machine.trip
    split
    · exact h
    · exact h
    · exact cut (h.flushed _)

/-- A record bound to a bank (R54, R62). -/
theorem arrives (h : s.Images u) (x : LogTracker) (k : BankId) : (bindBank { s with tracker := x } k).Images u :=
  TableStore.SameImages.setBank h rfl rfl

theorem scan (h : s.Images u) (p : List Byte) : (takeScan p s).Images u := by
  unfold takeScan
  split
  · split
    · dsimp only
      split
      · exact h
      · split
        · exact h
        · exact h.arrives _ _
    · exact h
  · exact h

theorem eye (h : s.Images u) (k : Station) (d : Bool) : (eyeChange k d s).Images u := by
  refine fieldKept.eyeChange h k d { rebased := fun _ _ _ _ _ => h, added := fun l _ _ _ _ => ?_ }
  exact fieldKept.rejoinSuccessor (fieldKept.rejoin (arrives (s := s.onEye k _) h _ _) _ _ _) _ _

end Images

/-- A state that meets the agreement over the very store of which the images are kept. -/
structure Stored (u : TableStore) (s : State) : Prop where
  ok : s.TablesOk
  same : s.tables = u

/-- A state that keeps a bank's images or has no record bound to it. -/
def KeepsBank (u : TableStore) (k : BankId) (s : State) : Prop := u.KeepsImages k s.tables

namespace KeepsBank

variable {k : BankId}

theorem linkKept : LinkKept (State.KeepsBank u k) :=
  LinkKept.of_linkFrame fun h g => by unfold State.KeepsBank at *; rw [g.tables]; exact h

end KeepsBank

namespace Stored

variable {k : BankId}

theorem images (h : s.Stored u) : s.Images u := fun j => by rw [h.same]; exact ⟨rfl, rfl⟩

theorem keeps (h : s.Stored u) : s.KeepsBank u k := h.images.keeps

theorem congr {t : State} (h : s.Stored u) (works : t.mode.mode.works = true → s.mode.mode.works = true)
    (tables : t.tables = s.tables) (queue : t.tracker.queue = s.tracker.queue)
    (next : t.tracker.nextId = s.tracker.nextId) (flight : t.requests.inFlight = s.requests.inFlight) : t.Stored u :=
  ⟨h.ok.congr works tables queue next flight, tables.trans h.same⟩

/-- A bank with records bound to it is neither of what a target must be to be written (R80, R85). -/
theorem held (h : s.Stored u) (bound : (u.bank k).refs ≠ 0) :
    (s.tables.bank k).state = .active ∨ (s.tables.bank k).state = .retiring :=
  (h.ok.agrees.bank k).bound (by rw [h.same]; exact bound)

/-- A target that is not RETIRING is not the bank. -/
theorem target_ne (h : s.Stored u) (bound : (u.bank k).refs ≠ 0)
    (retiring : (s.tables.bank s.tables.target).state ≠ .retiring) : s.tables.target ≠ k := by
  rintro rfl
  exact (h.held bound).elim h.ok.agrees.target retiring

/-- A target that is not RETIRING replaced. -/
theorem retargeted (h : s.Stored u) (bound : (u.bank k).refs ≠ 0)
    (retiring : (s.tables.bank s.tables.target).state ≠ .retiring) (x : Bank) :
    (s.setBank s.tables.target x).KeepsBank u k := by
  have other := h.target_ne bound retiring
  rw [← h.same]
  exact TableStore.keepsImages_setBank other x

theorem openClear (h : s.Stored u) (bound : (u.bank k).refs ≠ 0) : (openClear s).state.KeepsBank u k := by
  unfold Machine.openClear
  dsimp only
  split
  · exact h.keeps
  · exact h.keeps
  · next retiring => exact h.retargeted bound retiring _

theorem writeEntry (h : s.Stored u) (bound : (u.bank k).refs ≠ 0) (p : List Byte) :
    (writeEntry p s).state.KeepsBank u k := by
  unfold Machine.writeEntry
  dsimp only
  split
  · next loading =>
    split
    · exact h.keeps
    · exact h.retargeted bound (by rw [loading]; exact nofun) _
  · exact h.keeps
  · exact h.keeps

theorem writeTrims (h : s.Stored u) (bound : (u.bank k).refs ≠ 0) (p : List Byte) :
    (writeTrims p s).state.KeepsBank u k := by
  unfold Machine.writeTrims
  dsimp only
  split
  · next loading =>
    split
    · exact h.keeps
    · exact h.retargeted bound (by rw [loading]; exact nofun) _
  · exact h.keeps
  · exact h.keeps

theorem closeBank (h : s.Stored u) (bound : (u.bank k).refs ≠ 0) : (closeBank s).state.KeepsBank u k := by
  unfold Machine.closeBank
  dsimp only
  split
  · next loading =>
    split
    · exact h.retargeted bound (by rw [loading]; exact nofun) _
    · exact h.keeps
  · exact h.keeps
  · exact h.keeps

theorem swapBanks (h : s.Stored u) : (swapBanks s).state.KeepsBank u k := by
  unfold Machine.swapBanks
  split
  · exact h.keeps
  · next j _ =>
    have activated : u.SameImages (s.tables.setBank j { s.tables.bank j with state := .active }) :=
      TableStore.SameImages.setBank h.images rfl rfl
    refine TableStore.SameImages.keeps (TableStore.SameImages.setBank (k := j.other) activated ?_ ?_)
    all_goals rw [TableStore.bank_setBank, if_neg (BankId.other_ne j)]; simp

/-- The copy engine moves into a bank that no record is bound to (R83, R91). -/
theorem moveNextItem (h : s.Stored u) (bound : (u.bank k).refs ≠ 0) : (moveNextItem s).KeepsBank u k := by
  unfold Machine.moveNextItem
  split
  · exact h.keeps
  · next c hc =>
    have other : c.dest ≠ k := by
      rintro rfl
      have copying := (h.ok.agrees.bank c.dest).copying.2 (by rw [hc]; rfl)
      rcases h.held bound with held | held <;> exact nomatch copying.symm.trans held
    have moved : ∀ x, (s.tables.setBank c.dest x).bank k = u.bank k := fun x => by
      rw [TableStore.bank_setBank, if_neg (Ne.symm other), h.same]
    have kept : ∀ {t : State}, t.tables.bank k = u.bank k → t.KeepsBank u k := fun ht =>
      .inl (by rw [ht]; exact ⟨rfl, rfl⟩)
    dsimp only
    split
    · exact kept (moved _)
    · have complete : ∀ x y, ((s.tables.setBank c.dest x).setBank c.dest y).bank k = u.bank k := fun x y => by
        rw [TableStore.bank_setBank, if_neg (Ne.symm other), moved]
      unfold copyComplete
      dsimp only
      split <;> exact kept (complete _ _)

theorem loadLine (h : s.Stored u) (p : List Byte) : (loadLine p s).state.Images u := by
  obtain same | ⟨-, -, accepted⟩ := loadLine_cases p s
  · rw [same]; exact h.images
  · have moded : ∀ t : State, t.Images u → (acceptMode t).Images u := by
      intro t ht
      obtain same | ⟨c, -, flushed⟩ := acceptMode_cases t
      · rw [same]; exact ht
      · rw [flushed]; exact ht.flushed _
    rw [accepted, acceptLine_eq]
    obtain ⟨eyes, marks, inputs⟩ := acceptInputs_cases { record := lineImage p, counts := lineCounts (lineImage p) }
      (acceptMode { s with mode := { s.mode with
        line := some { record := lineImage p, counts := lineCounts (lineImage p) } } })
    have ready := moded { s with mode := { s.mode with
        line := some { record := lineImage p, counts := lineCounts (lineImage p) } } } h.images
    dsimp only
    rw [inputs]
    split
    · unfold State.Images
      rw [(startCycle_cycleFrame _).tables]
      exact ready
    · exact Images.cut ready

theorem commandsLead (bound : (u.bank k).refs ≠ 0) : CommandsLead (State.Stored u) (State.KeepsBank u k) where
  overflow h := h.keeps
  same h _ f := h.keeps
  loadLine h _ p f := (h.loadLine p).keeps
  modeRun {s} h _ f := by
    obtain same | ⟨-, -, entered⟩ := modeRun_cases s
    · rw [same]; exact h.keeps
    · rw [entered]
      have run : (s.setMode .run).Images u := h.images
      exact (Images.fieldKept.stationAtRun (Images.fieldKept.stationAtRun run .one) .two).keeps
  modeFinish {s} h _ f := by
    obtain same | ⟨-, begun⟩ := modeFinish_cases s
    · rw [same]; exact h.keeps
    · rw [begun]
      have finishing : (s.setMode .finishing).Images u := h.images
      exact finishing.endFinishing.keeps
  modeStop {s} h _ f := by
    obtain same | ⟨-, stopped⟩ := modeStop_cases s
    · rw [same]; exact h.keeps
    · rw [stopped]; exact (h.images.flushed _).keeps
  modeClear {s} h _ f := by
    obtain same | ⟨-, left⟩ := modeClear_cases s
    · rw [same]; exact h.keeps
    · rw [left]; exact h.keeps
  setAmbient h _ z f := h.keeps
  openClear h _ f := h.openClear bound
  openCopy {s} h _ t begun q := by
    obtain ⟨src, mark, copying, retiring, rfl⟩ := openCopy_begun begun
    exact h.retargeted bound retiring _
  writeEntry h _ p f := h.writeEntry bound p
  writeTrims h _ p f := h.writeTrims bound p
  closeBank h _ f := h.closeBank bound
  swapBanks h _ f := h.swapBanks
  armRestore h _ c f := by
    rw [armRestore_channelsOnly c]
    exact h.keeps
  clearCounters h _ f := h.keeps
  lineReset {s} h _ f := by
    have released : ((resetBlocks s).tables.bank k).refs = 0 := by cases k <;> rfl
    refine .inr ?_
    rw [← (resetBlocks_cut_cycleFrame s).tables] at released
    exact released
  link := KeepsBank.linkKept
  weaken h := h.keeps
  queue h q := h.congr id rfl rfl rfl rfl
  portU h u := h.congr id rfl rfl rfl rfl
  bump h c := h.congr id rfl rfl rfl rfl
  hardwareReset _ a b trip := .inr (by cases k <;> rfl)
  scan h p := (h.images.scan p).keeps
  void {s} h p := by
    unfold takeVoid
    split
    · exact (Images.fieldKept.remove h.images _ _ _).keeps
    · exact h.keeps
  encoder h a b := (Images.fieldKept.encoderChange h.images a b).keeps
  speedWindow h := (Images.fieldKept.endSpeedWindow h.images).keeps
  dwell h := (Images.fieldKept.setDwell h.images).keeps
  pulse h k n := (Images.fieldKept.pulseRotor h.images k n).keeps
  silence h k := (Images.fieldKept.silenceRotor h.images k).keeps
  eye h k d := (h.images.eye k d).keeps
  trip h a := (Images.fieldKept.tripLevel h.images a).keeps
  copyItem h := h.moveNextItem bound

end Stored

end State

/-- Settles O9: every command over a store in agreement keeps the images of a bank that stays bound. -/
theorem boundBankKeepsImages : Obligations.BoundBankKeepsImages := by
  intro c s t k ok stepped bound still
  have start : s.Stored s.tables := ⟨ok, rfl⟩
  exact (State.Stored.commandsLead bound).exec start c stepped |>.resolve_right still

end Sys2Proof.Machine
end

section
/-! PROOFS. The capacities of queues, slots and counters (R10, R11, R47, R168, R174), for any number of reply slots:
within seven before a request's reply is placed, within eight after it. -/

namespace Sys2Proof.Machine

/-! ## The counters -/

/-- The twenty counters, in the order of R174. -/
def Counter.all : List Counter :=
  [.uFramesOk, .dFramesOk, .hecCorrected, .hecFailed, .crcFailed, .framesAborted, .forwardDropped, .serviceDiscarded,
   .unsolicited, .forbiddenKind, .replyOverflow, .scanOverflow, .scanRejected, .voidUnmatched, .logsCompleted,
   .logsLost, .logsUnscanned, .unscannedDropped, .reportsMissing1, .reportsMissing2]

theorem Counter.mem_all (c : Counter) : c ∈ Counter.all := by cases c <;> decide

theorem Counters.toList_eq (k : Counters) : k.toList = Counter.all.map k.get := rfl

theorem Counters.mem_toList {k : Counters} {n : Nat} : n ∈ k.toList ↔ ∃ c, k.get c = n := by
  rw [Counters.toList_eq, List.mem_map]
  exact ⟨fun ⟨c, _, h⟩ => ⟨c, h⟩, fun ⟨c, h⟩ => ⟨c, c.mem_all, h⟩⟩

theorem Counters.get_bump_same (k : Counters) (c : Counter) : (k.bump c).get c = riseTo 65535 (k.get c) := by
  cases c <;> rfl

theorem Counters.get_bump_other (k : Counters) {c d : Counter} (h : d ≠ c) : (k.bump c).get d = k.get d := by
  cases c <;> cases d <;> simp_all [Counters.bump, Counters.get]

/-! ## The capacities -/

/-- The capacities, for a number of reply slots. -/
structure State.Within (n : Nat) (s : State) : Prop where
  down : s.switch.downOccupancy ≤ 1024
  up : (s.switch.up.map storedSize).sum ≤ 1024
  records : s.tracker.queue.length ≤ 16
  slots : s.slotsTaken ≤ n
  counters : ∀ c, s.requests.counters.get c ≤ 65535

theorem State.capacityOk_iff {s : State} : s.CapacityOk ↔ s.Within 8 := by
  constructor
  · exact fun h => ⟨h.down, h.up, h.records, h.slots, fun c => h.counters _ (Counters.mem_toList.2 ⟨c, rfl⟩)⟩
  · refine fun h => ⟨h.down, h.up, h.records, h.slots, fun n hn => ?_⟩
    obtain ⟨c, rfl⟩ := Counters.mem_toList.1 hn
    exact h.counters c

namespace State.Within

variable {n : Nat} {s t : State}

/-- What the capacities are read from. -/
theorem congr (h : s.Within n) (down : t.switch.down = s.switch.down) (up : t.switch.up = s.switch.up)
    (records : t.tracker.queue.length ≤ s.tracker.queue.length) (replies : t.requests.replies = s.requests.replies)
    (flight : t.requests.inFlight.isSome = s.requests.inFlight.isSome)
    (counters : ∀ c, t.requests.counters.get c ≤ 65535) : t.Within n where
  down := by rw [FrameSwitch.downOccupancy, down]; exact h.down
  up := by rw [up]; exact h.up
  records := records.trans h.records
  slots := by rw [State.slotsTaken, replies, flight]; exact h.slots
  counters := counters

theorem same (h : s.Within n) (switch : t.switch = s.switch) (queue : t.tracker.queue = s.tracker.queue)
    (requests : t.requests = s.requests) : t.Within n :=
  h.congr (by rw [switch]) (by rw [switch]) (by rw [queue]) (by rw [requests]) (by rw [requests])
    (by rw [requests]; exact h.counters)

theorem bump (h : s.Within n) (c : Counter) : (s.bump c).Within n := by
  refine h.congr rfl rfl (Nat.le_refl _) rfl rfl fun d => ?_
  by_cases hd : d = c
  · subst hd
    exact (Counters.get_bump_same _ _).trans_le (riseTo_le (h.counters d))
  · exact (Counters.get_bump_other _ hd).trans_le (h.counters d)

theorem abort (h : s.Within n) : (abortReception s).Within n := by
  unfold abortReception
  split
  · exact bump (by exact h.same rfl rfl rfl) _
  · exact h

theorem drive (h : s.Within n) (f : Frame) : (driveD f s).Within n := by
  unfold driveD
  split
  · exact h.same rfl rfl rfl
  · exact h.abort.same rfl rfl rfl

theorem start (h : s.Within n) : (startCycle s).Within n := by
  unfold startCycle
  split
  · exact h
  · exact drive (by exact h.same rfl rfl rfl) _

theorem sum_tail_le (f : Frame → Nat) (q : List Frame) : (q.tail.map f).sum ≤ (q.map f).sum := by
  cases q <;> simp

theorem linkKept : LinkKept (State.Within n) where
  clock h _ := h.same rfl rfl rfl
  queue h _ := h.same rfl rfl rfl
  portU h _ := h.same rfl rfl rfl
  rxD h _ := h.same rfl rfl rfl
  cut h _ := h.same rfl rfl rfl
  bump h c := h.bump c
  taken {s} h k := by
    cases k
    · refine { h with slots := Nat.le_trans ?_ h.slots }
      exact Nat.add_le_add_right (by simp [takeFrom]) _
    · exact { h with up := (sum_tail_le _ _).trans h.up }
  start h := h.start
  drive h _ f := h.drive f
  cycle h _ _ _ := h.same rfl rfl rfl
  heard h _ _ _ := h.same rfl rfl rfl
  defer h := h.same rfl rfl rfl
  missed h _ := h.same rfl rfl rfl
  found h _ := h.same rfl rfl rfl
  report h _ _ _ _ _ _ := h.same rfl rfl rfl
  popped {s} h e rest hd := by
    refine { h with down := Nat.le_trans ?_ h.down }
    simp [FrameSwitch.downOccupancy, hd]
  pushed h e _ room := by
    refine { h with down := ?_ }
    simpa [FrameSwitch.downOccupancy, Config.forwardCapacity] using room
  offerUp {s} h f := by
    unfold Machine.offerUp
    split
    · next room => exact { h with up := by simpa [Config.forwardCapacity] using room }
    · exact h.bump _
  released h := h.same rfl rfl rfl
  handed h _ f _ _ := drive (by exact h.same rfl rfl rfl) f

/-! ## Records -/

theorem idle (h : s.Within n) (k : Station) : (enterIdle k s).Within n := by
  rw [enterIdle_armsOnly]; exact h.same rfl rfl rfl

theorem removalKept : RemovalKept (State.Within n) where
  gone h _ := h.congr rfl rfl (List.length_filter_le _ _) rfl rfl h.counters
  bank h _ := h.same rfl rfl rfl
  bump h c := h.bump c
  joined h _ _ _ := h.congr rfl rfl (updateRecord_length _ _ _).le rfl rfl h.counters
  idle h k := h.idle k

theorem endFinishing (h : s.Within n) : (endFinishing s).Within n := by
  unfold Machine.endFinishing
  split
  · rw [stationsIdle_armsOnly]; exact h.same rfl rfl rfl
  · exact h

theorem flushed (h : s.Within n) (m : ModeControl) : (flush { s with mode := m }).Within n := by
  unfold flush
  rw [stationsIdle_armsOnly]
  exact h.congr rfl rfl (Nat.zero_le _) rfl rfl h.counters

theorem cut (h : s.Within n) : (cutCycle s).Within n := by
  unfold cutCycle
  dsimp only
  split
  · exact h.same rfl rfl rfl
  · refine start ?_
    unfold holdReception
    split <;> exact h.same rfl rfl rfl

theorem fieldKept : FieldKept (State.Within n) where
  count h c := h.bump c
  update h _ _ _ _ := h.congr rfl rfl (updateRecord_length _ _ _).le rfl rfl h.counters
  idle h k := h.idle k
  engage h _ _ _ _ _ _ _ := h.same rfl rfl rfl
  lock h _ _ := h.same rfl rfl rfl
  remove h l id why := removalKept.removeRecord endFinishing h l id why
  clock h _ := h.same rfl rfl rfl
  travel h _ := h.same rfl rfl rfl
  inputs h _ := h.same rfl rfl rfl
  faulted h _ := h.same rfl rfl rfl
  trip h c _ := by
    unfold Machine.trip
    split
    · exact h
    · exact h
    · exact cut (h.flushed _)

/-- A record come into a queue of fewer than sixteen (R50, R62). -/
theorem arrives (h : s.Within n) (room : s.tracker.queue.length < 16) {q : List LogRecord}
    (one : q.length = s.tracker.queue.length + 1) (next : Nat) (k : BankId) :
    (bindBank { s with tracker := { s.tracker with queue := q, nextId := next } } k).Within n :=
  ⟨h.down, h.up, one.trans_le room, h.slots, h.counters⟩

theorem scan (h : s.Within n) (p : List Byte) : (takeScan p s).Within n := by
  unfold takeScan
  split
  · split
    · dsimp only
      split
      · exact h.bump _
      · split
        · exact h.bump _
        · next room => exact fieldKept.rejoin (h.arrives (Nat.not_le.1 room) (by simp) _ _) _ _ _
    · exact h.bump _
  · exact h.bump _

theorem void (h : s.Within n) (p : List Byte) : (takeVoid p s).Within n := by
  unfold takeVoid
  split
  · exact fieldKept.remove h _ _ _
  · exact h.bump _

theorem eye (h : s.Within n) (k : Station) (d : Bool) : (eyeChange k d s).Within n := by
  have lit : (s.onEye k (fun e => { e with dark := true, darkSince := some s.travel.t })).Within n :=
    fieldKept.inputs h _
  refine fieldKept.eyeChange h k d { rebased := fun _ r _ found _ => ?_, added := fun l _ run _ room => ?_ }
  · exact lit.congr rfl rfl (by simp) rfl rfl lit.counters
  · exact fieldKept.count (fieldKept.rejoinSuccessor (fieldKept.rejoin
      (lit.arrives room (State.Bound.insertRecord_perm _ _).length_eq _ _) _ _ _) _ _) _

/-! ## Requests -/

/-- A reply placed takes one more slot (R168). -/
theorem placed (h : s.Within n) (f : Frame) : (s.placeReply f).Within (n + 1) :=
  { h with slots := (placeReply_slots s f).trans_le (Nat.succ_le_succ h.slots) }

theorem tables (h : s.Within n) (g : TablesOnly s t) : t.Within n := by
  rw [g]; exact h.same rfl rfl rfl

/-- With a slot free at most seven are taken (R168). -/
theorem room (h : s.Within 8) (free : s.full = false) : s.Within 7 :=
  { h with slots := Nat.le_of_lt_succ (Nat.not_le.1 (of_decide_eq_false free)) }

/-- The copy's reply takes the slot that was reserved for it (R84, R169). -/
theorem moveNextItem (h : s.Within n) : (moveNextItem s).Within n := by
  unfold Machine.moveNextItem
  split
  · exact h
  · dsimp only
    split
    · exact h.same rfl rfl rfl
    · unfold copyComplete
      dsimp only
      split
      · exact h.same rfl rfl rfl
      · next q flight =>
        refine { h with slots := Nat.le_trans (Nat.le_of_eq ?_) h.slots }
        rw [placeReply_slots]
        have flight : s.requests.inFlight = some q := flight
        simp [State.slotsTaken, flight]

theorem acceptLine (h : s.Within n) (r : LineRecord) : (acceptLine r s).Within n := by
  have moded : ∀ t : State, t.Within n → (acceptMode t).Within n := by
    intro t ht
    obtain same | ⟨c, -, flushed⟩ := acceptMode_cases t
    · rw [same]; exact ht.same rfl rfl rfl
    · rw [flushed]; exact ht.flushed _
  rw [acceptLine_eq]
  obtain ⟨eyes, marks, inputs⟩ := acceptInputs_cases { record := r, counts := lineCounts r }
    (acceptMode { s with mode := { s.mode with line := some { record := r, counts := lineCounts r } } })
  have ready := moded { s with mode := { s.mode with line := some { record := r, counts := lineCounts r } } }
    (h.same rfl rfl rfl)
  dsimp only
  rw [inputs]
  split
  · exact start (by exact ready.congr rfl rfl (Nat.le_refl _) rfl rfl ready.counters)
  · exact cut (by exact ready.congr rfl rfl (Nat.le_refl _) rfl rfl ready.counters)

theorem loadLine (h : s.Within n) (p : List Byte) : (loadLine p s).state.Within n := by
  obtain same | ⟨-, -, accepted⟩ := loadLine_cases p s
  · rw [same]; exact h
  · rw [accepted]; exact h.acceptLine _

theorem modeRun (h : s.Within n) : (modeRun s).state.Within n := by
  obtain same | ⟨-, -, entered⟩ := modeRun_cases s
  · rw [same]; exact h
  · have run : (s.setMode .run).Within n := h.same rfl rfl rfl
    rw [entered]
    exact fieldKept.stationAtRun (fieldKept.stationAtRun run .one) .two

theorem modeFinish (h : s.Within n) : (modeFinish s).state.Within n := by
  obtain same | ⟨-, begun⟩ := modeFinish_cases s
  · rw [same]; exact h
  · rw [begun]; exact endFinishing (by exact h.same rfl rfl rfl)

theorem modeStop (h : s.Within n) : (modeStop s).state.Within n := by
  obtain same | ⟨-, stopped⟩ := modeStop_cases s
  · rw [same]; exact h
  · rw [stopped]; exact h.flushed _

theorem modeClear (h : s.Within n) : (modeClear s).state.Within n := by
  obtain same | ⟨-, left⟩ := modeClear_cases s
  · rw [same]; exact h
  · rw [left]; exact h.same rfl rfl rfl

/-- LINE_RESET leaves counters and slots at 0 (R176). -/
theorem lineReset (h : s.Within n) : (lineReset s).state.Within n := by
  have ready : (if (resetBlocks s).mode.line.isSome then cutCycle (resetBlocks s) else resetBlocks s).Within n := by
    have blocks : (resetBlocks s).Within n := h.congr rfl rfl (Nat.zero_le _) rfl rfl h.counters
    split
    · exact blocks.cut
    · exact blocks
  exact ⟨ready.down, ready.up, ready.records, Nat.zero_le _, fun c => (Counters.zero_get c).trans_le (Nat.zero_le _)⟩

theorem reset (a b trip : Bool) (q : List Instr) :
    State.Within 8 { State.reset with
      travel := TravelUnit.reset a b
      inputs := { State.reset.inputs with trip := trip }
      pending := q } :=
  ⟨Nat.zero_le _, Nat.zero_le _, Nat.zero_le _, Nat.zero_le _, fun c => (Counters.zero_get c).trans_le (Nat.zero_le _)⟩

theorem commandsLead : CommandsLead (State.Within 8) (State.Within 8) where
  overflow h := h.bump _
  same h free f := (h.room free).placed f
  loadLine h free p f := ((h.room free).loadLine p).placed f
  modeRun h free f := (h.room free).modeRun.placed f
  modeFinish h free f := (h.room free).modeFinish.placed f
  modeStop h free f := (h.room free).modeStop.placed f
  modeClear h free f := (h.room free).modeClear.placed f
  setAmbient h free z f := placed (by exact (h.room free).same rfl rfl rfl) f
  openClear h free f := ((h.room free).tables (openClear_tablesOnly _)).placed f
  openCopy {s} h free t begun q := by
    obtain ⟨src, -, -, -, rfl⟩ := openCopy_begun begun
    refine { h with slots := ?_ }
    have taken := (h.room free).slots
    simp only [State.slotsTaken] at taken ⊢
    simp only [Option.isSome_some, if_true]
    omega
  writeEntry h free p f := ((h.room free).tables (writeEntry_tablesOnly p _)).placed f
  writeTrims h free p f := ((h.room free).tables (writeTrims_tablesOnly p _)).placed f
  closeBank h free f := ((h.room free).tables (closeBank_tablesOnly _)).placed f
  swapBanks h free f := ((h.room free).tables (swapBanks_tablesOnly _)).placed f
  armRestore h free c f := by
    rw [armRestore_channelsOnly c]
    exact placed (by exact (h.room free).same rfl rfl rfl) f
  clearCounters h free f := placed (by
    exact (h.room free).congr rfl rfl (Nat.le_refl _) rfl rfl fun c => (Counters.zero_get c).trans_le (Nat.zero_le _)) f
  lineReset h free f := (h.room free).lineReset.placed f
  link := linkKept
  weaken h := h
  queue h q := linkKept.queue h q
  portU h u := linkKept.portU h u
  bump h c := h.bump c
  hardwareReset _ a b trip := reset a b trip _
  scan h p := h.scan p
  void h p := h.void p
  encoder h a b := fieldKept.encoderChange h a b
  speedWindow h := fieldKept.endSpeedWindow h
  dwell h := fieldKept.setDwell h
  pulse h k n := fieldKept.pulseRotor h k n
  silence h k := fieldKept.silenceRotor h k
  eye h k d := h.eye k d
  trip h a := fieldKept.tripLevel h a
  copyItem h := h.moveNextItem

end State.Within

end Sys2Proof.Machine
end

section
/-! PROOFS. Laws of the log queue alone: one kept by removal and by every change that leaves number, origin, tag, bank
and butt count of each record alone is kept by every command but a scan and an eye's edge. Of this kind are the law of
the tags and, within reach of the scan line, the order of the queue (R47). -/

namespace Sys2Proof.Machine

/-! ## Laws of the queue -/

/-- A law of the queue that removals and changes within a record keep. -/
structure QueueLaw (R : List LogRecord → Prop) : Prop where
  nil : R []
  sublist : ∀ {p q}, p.Sublist q → R q → R p
  update : ∀ {q id f}, R q → (∀ r : LogRecord, r.SameLog (f r)) → R (updateRecord id f q)

/-- A state whose log queue meets a law. -/
def State.Queued (R : List LogRecord → Prop) (s : State) : Prop := R s.tracker.queue

namespace State.Queued

variable {R : List LogRecord → Prop} {s : State}

theorem linkKept : LinkKept (State.Queued R) :=
  LinkKept.of_linkFrame fun h g => by unfold State.Queued at *; rw [g.tracker]; exact h

theorem of_queue {t : State} (h : s.Queued R) (same : t.tracker.queue = s.tracker.queue) : t.Queued R :=
  Eq.mpr (congrArg R same) h

theorem endFinishing (h : s.Queued R) : (endFinishing s).Queued R := by
  unfold Machine.endFinishing
  split
  · rw [stationsIdle_armsOnly]; exact h
  · exact h

theorem cut (h : s.Queued R) : (cutCycle s).Queued R := by
  unfold State.Queued
  rw [(cutCycle_cycleFrame s).tracker]
  exact h

theorem moveNextItem (h : s.Queued R) : (moveNextItem s).Queued R := by
  unfold Machine.moveNextItem
  split
  · exact h
  · dsimp only
    split
    · exact h
    · unfold copyComplete
      dsimp only
      split <;> exact h

end State.Queued

namespace QueueLaw

variable {R : List LogRecord → Prop} (law : QueueLaw R) {s : State}
include law

theorem removalKept : RemovalKept (State.Queued R) where
  gone h _ := law.sublist List.filter_sublist h
  bank h _ := h
  bump h _ := h
  joined h _ _ _ := law.update h fun _ => ⟨rfl, rfl, rfl, rfl, rfl⟩
  idle {s} h k := by rw [enterIdle_armsOnly]; exact h

theorem flushed (m : ModeControl) : (flush { s with mode := m }).Queued R := by
  unfold flush
  rw [stationsIdle_armsOnly]
  exact law.nil

theorem fieldKept : FieldKept (State.Queued R) where
  count h _ := h
  update h _ _ same _ := law.update h same
  idle h k := law.removalKept.idle h k
  engage h _ _ _ _ _ _ _ := h
  lock h _ _ := h
  remove h l id why := law.removalKept.removeRecord State.Queued.endFinishing h l id why
  clock h _ := h
  travel h _ := h
  inputs h _ := h
  faulted h _ := h
  trip h c _ := by
    unfold Machine.trip
    split
    · exact h
    · exact h
    · exact State.Queued.cut (law.flushed _)

theorem loadLine (h : s.Queued R) (p : List Byte) : (loadLine p s).state.Queued R := by
  have moded : ∀ t : State, t.Queued R → (acceptMode t).Queued R := by
    intro t ht
    obtain same | ⟨c, -, flushed⟩ := acceptMode_cases t
    · rw [same]; exact ht
    · rw [flushed]; exact law.flushed _
  obtain same | ⟨-, -, accepted⟩ := loadLine_cases p s
  · rw [same]; exact h
  · rw [accepted, acceptLine_eq]
    obtain ⟨eyes, marks, inputs⟩ := acceptInputs_cases { record := lineImage p, counts := lineCounts (lineImage p) }
      (acceptMode { s with mode := { s.mode with
        line := some { record := lineImage p, counts := lineCounts (lineImage p) } } })
    have ready := moded { s with mode := { s.mode with
        line := some { record := lineImage p, counts := lineCounts (lineImage p) } } } h
    dsimp only
    rw [inputs]
    split
    · exact State.Queued.linkKept.start (by exact ready)
    · exact State.Queued.cut ready

theorem scan (h : s.Queued R)
    (appended : ∀ l f, s.mode.line = some l → scanRejected s l f (scanButt s l f) = false →
      R (s.tracker.queue ++ [scanRecord s l f (scanButt s l f)])) (p : List Byte) : (takeScan p s).Queued R := by
  unfold takeScan
  split
  · next l _ hl =>
    split
    · dsimp only
      split
      · exact h
      · next accepted =>
        split
        · exact h
        · exact law.update (appended l _ hl (Bool.eq_false_iff.2 accepted)) fun _ => ⟨rfl, rfl, rfl, rfl, rfl⟩
    · exact h
  · exact h

theorem void (h : s.Queued R) (p : List Byte) : (takeVoid p s).Queued R := by
  unfold takeVoid
  split
  · exact law.fieldKept.remove h _ _ _
  · exact h

theorem eye (h : s.Queued R) {k : Station} (d : Bool)
    (rebased : ∀ l r, s.mode.line = some l → r ∈ s.tracker.queue →
      keepsOrder r.id (travelBack s.travel.t (l.counts.eye.get k)) s.tracker.queue = true →
        R (updateRecord r.id (fun x => { x with b := travelBack s.travel.t (l.counts.eye.get k) }) s.tracker.queue))
    (added : ∀ l r, s.mode.line = some l → r.b = travelBack s.travel.t (l.counts.eye.get k) →
      (∀ x ∈ s.tracker.queue, x.b ≠ r.b) → r.tag = none → r.origin = .synthetic → R (insertRecord r s.tracker.queue)) :
    (eyeChange k d s).Queued R := by
  refine law.fieldKept.eyeChange h k d
    { rebased := fun l r hl found order => ?_, added := fun l hl _ distinct _ => ?_ }
  · have swap : (updateRecord r.id (fun x => { x with b := travelBack s.travel.t (l.counts.eye.get k) })
        (updateRecord r.id (fun x => x.setAt k { x.at k with confirmed := .byEye }) s.tracker.queue))
        = updateRecord r.id (fun x => x.setAt k { x.at k with confirmed := .byEye })
          (updateRecord r.id (fun x => { x with b := travelBack s.travel.t (l.counts.eye.get k) }) s.tracker.queue) := by
      simp only [updateRecord, List.map_map]
      refine List.map_congr_left fun x _ => ?_
      cases k <;> by_cases hx : x.id = r.id <;> simp [hx, LogRecord.setAt, LogRecord.at]
    show R _
    refine Eq.mpr (congrArg R swap) (law.update (rebased l r hl (List.mem_of_find?_eq_some found) order) fun x => ?_)
    exact x.setAt_sameLog k _
  · refine law.fieldKept.rejoinSuccessor (law.fieldKept.rejoin ?_ _ _ _) _ _
    exact added l _ hl rfl (by exact distinct) rfl rfl

/-- A law of the queue is led to by every command where a scan and an eye's edge lead to it. -/
theorem commandsLead {P : State → Prop} (holds : ∀ {s}, P s → s.Queued R)
    (queue : ∀ {s}, P s → ∀ q, P { s with pending := q }) (portU : ∀ {s}, P s → ∀ u, P { s with portU := u })
    (bump : ∀ {s}, P s → ∀ c, P (s.bump c)) (scan : ∀ {s}, P s → ∀ p, (takeScan p s).Queued R)
    (eye : ∀ {s}, P s → ∀ k d, (eyeChange k d s).Queued R) : CommandsLead P (State.Queued R) where
  overflow h := (holds h).of_queue rfl
  same h _ f := (holds h).of_queue rfl
  loadLine h _ p f := law.loadLine (holds h) p
  modeRun {s} h _ f := by
    obtain same | ⟨-, -, entered⟩ := modeRun_cases s
    · rw [same]; exact (holds h).of_queue rfl
    · rw [entered]
      have run : (s.setMode .run).Queued R := (holds h).of_queue rfl
      exact law.fieldKept.stationAtRun (law.fieldKept.stationAtRun run .one) .two
  modeFinish {s} h _ f := by
    obtain same | ⟨-, begun⟩ := modeFinish_cases s
    · rw [same]; exact (holds h).of_queue rfl
    · rw [begun]; exact State.Queued.endFinishing (s := s.setMode .finishing) ((holds h).of_queue rfl)
  modeStop {s} h _ f := by
    obtain same | ⟨-, stopped⟩ := modeStop_cases s
    · rw [same]; exact (holds h).of_queue rfl
    · rw [stopped]; exact law.flushed _
  modeClear {s} h _ f := by
    obtain same | ⟨-, left⟩ := modeClear_cases s
    · rw [same]; exact (holds h).of_queue rfl
    · rw [left]; exact (holds h).of_queue rfl
  setAmbient h _ z f := (holds h).of_queue rfl
  openClear {s} h _ f := by rw [openClear_tablesOnly s]; exact (holds h).of_queue rfl
  openCopy h _ t begun q := by
    obtain ⟨src, -, -, -, rfl⟩ := openCopy_begun begun
    exact (holds h).of_queue rfl
  writeEntry {s} h _ p f := by rw [writeEntry_tablesOnly p s]; exact (holds h).of_queue rfl
  writeTrims {s} h _ p f := by rw [writeTrims_tablesOnly p s]; exact (holds h).of_queue rfl
  closeBank {s} h _ f := by rw [closeBank_tablesOnly s]; exact (holds h).of_queue rfl
  swapBanks {s} h _ f := by rw [swapBanks_tablesOnly s]; exact (holds h).of_queue rfl
  armRestore h _ c f := by rw [armRestore_channelsOnly c]; exact (holds h).of_queue rfl
  clearCounters h _ f := (holds h).of_queue rfl
  lineReset {s} h _ f := by
    have emptied : (resetBlocks s).tracker.queue = [] := rfl
    rw [← (resetBlocks_cut_cycleFrame s).tracker] at emptied
    exact Eq.mpr (congrArg R emptied) law.nil
  link := State.Queued.linkKept
  weaken h := holds h
  queue := queue
  portU := portU
  bump := bump
  hardwareReset _ a b trip := law.nil
  scan := scan
  void h p := law.void (holds h) p
  encoder h a b := law.fieldKept.encoderChange (holds h) a b
  speedWindow h := law.fieldKept.endSpeedWindow (holds h)
  dwell h := law.fieldKept.setDwell (holds h)
  pulse h k n := law.fieldKept.pulseRotor (holds h) k n
  silence h k := law.fieldKept.silenceRotor (holds h) k
  eye := eye
  trip h a := law.fieldKept.tripLevel (holds h) a
  copyItem h := State.Queued.moveNextItem (holds h)

end QueueLaw

/-! ## The tags -/

/-- The records without a tag are the synthetic ones, and no two carry the same tag (R47). -/
def tagLaw (q : List LogRecord) : Prop :=
  (∀ r ∈ q, r.tag = none ↔ r.origin = .synthetic) ∧ q.Pairwise (fun x y => x.tag = none ∨ x.tag ≠ y.tag)

/-- Origin and tag of every record kept. -/
theorem tagLaw_update {q : List LogRecord} (h : tagLaw q) (id : Nat) {f : LogRecord → LogRecord}
    (tag : ∀ r, (f r).tag = r.tag) (origin : ∀ r, (f r).origin = r.origin) : tagLaw (updateRecord id f q) := by
  have kept : ∀ r : LogRecord, (if r.id == id then f r else r).tag = r.tag
      ∧ (if r.id == id then f r else r).origin = r.origin := fun r => by
    split
    · exact ⟨tag r, origin r⟩
    · exact ⟨rfl, rfl⟩
  refine ⟨fun r hr => ?_, List.pairwise_map.2 (h.2.imp fun {x y} hxy => ?_)⟩
  · obtain ⟨x, hx, rfl⟩ := List.mem_map.1 hr
    rw [(kept x).1, (kept x).2]
    exact h.1 x hx
  · rw [(kept x).1, (kept y).1]; exact hxy

theorem tagLaw_queueLaw : QueueLaw tagLaw where
  nil := ⟨fun _ hr => (nomatch hr), .nil⟩
  sublist hp h := ⟨fun r hr => h.1 r (hp.subset hr), h.2.sublist hp⟩
  update h same := tagLaw_update h _ (fun r => (same r).tag) fun r => (same r).origin

/-- A tagless or newly tagged record joins a queue that meets the law. -/
theorem tagLaw_cons {q : List LogRecord} (h : tagLaw q) {r : LogRecord} (origin : r.tag = none ↔ r.origin = .synthetic)
    (fresh : r.tag = none ∨ ∀ x ∈ q, x.tag ≠ r.tag) : tagLaw (r :: q) :=
  ⟨List.forall_mem_cons.2 ⟨origin, h.1⟩,
    List.pairwise_cons.2 ⟨fun x hx => fresh.imp_right fun other => (other x hx).symm, h.2⟩⟩

theorem tagLaw_perm {p q : List LogRecord} (hp : p.Perm q) (h : tagLaw q) : tagLaw p := by
  refine ⟨fun r hr => h.1 r (hp.mem_iff.1 hr), (hp.pairwise_iff fun {x y} hxy => ?_).2 h.2⟩
  by_cases hy : y.tag = none
  · exact .inl hy
  · exact .inr fun same => hxy.elim (fun hx => hy (same.trans hx)) fun other => other same.symm

/-- The law of the tags is kept by every command. -/
theorem tags_commandsLead : CommandsLead (State.Queued tagLaw) (State.Queued tagLaw) := by
  refine tagLaw_queueLaw.commandsLead (fun h => h) (fun h _ => h) (fun h _ => h) (fun h _ => h) (fun {s} h p => ?_)
    fun {s} h k d => ?_
  · refine tagLaw_queueLaw.scan h (fun l f _ accepted => ?_) p
    refine tagLaw_perm (List.perm_append_singleton _ _) (tagLaw_cons h ⟨nofun, nofun⟩ (.inr fun x hx same => ?_))
    have duplicate : s.tracker.queue.any (fun r => r.tag == some f.tag) = true :=
      List.any_eq_true.2 ⟨x, hx, beq_iff_eq.2 same⟩
    simp [scanRejected, duplicate] at accepted
  · refine tagLaw_queueLaw.eye h d (fun l r _ _ _ => ?_) fun l r _ _ _ tag origin => ?_
    · exact tagLaw_update h _ (fun _ => rfl) fun _ => rfl
    · exact tagLaw_perm (State.Bound.insertRecord_perm _ _) (tagLaw_cons h ⟨fun _ => origin, fun _ => tag⟩ (.inl tag))

end Sys2Proof.Machine
end

section
/-! PROOFS. The order of the log queue (R47): under a valid line record and within 400 m of the scan line, butt counts
rise along the queue exactly as positions fall, so that a scan, a rebase and an insertion, which compare positions or
neighbours, keep the order of all. -/

namespace Sys2Proof.Machine

/-! ## Travel differences (R31) -/

/-- A difference of butt counts is the difference of their positions, where that does not wrap. -/
theorem travelDiff_of_positions (t a b : Travel) (h : (travelDiff t a - travelDiff t b).natAbs < 8388608) :
    travelDiff b a = travelDiff t a - travelDiff t b := by
  have shift : b - a = (t - a) - (t - b) := (sub_sub_sub_cancel_left a b t).symm
  rw [travelDiff, shift, BitVec.toInt_sub]
  exact Int.bmod_eq_of_le (by simp only [travelDiff] at h; omega) (by simp only [travelDiff] at h; omega)

/-- A butt count formed back from T has that position. -/
theorem travelDiff_travelBack (t : Travel) {n : Int} (h : n.natAbs < 8388608) : travelDiff t (travelBack t n) = n := by
  have back : t - (t - BitVec.ofInt 24 n) = BitVec.ofInt 24 n := sub_sub_self _ _
  rw [travelDiff, travelBack, back, BitVec.toInt_ofInt]
  exact Int.bmod_eq_of_le (by omega) (by omega)

theorem travelDiff_injective {t a b : Travel} (h : travelDiff t a = travelDiff t b) : a = b := by
  have same := BitVec.toInt_inj.1 h
  exact sub_right_injective same

/-! ## The distances of a valid line record (R23, R25) -/

/-- mm into counts: at most ten counts a millimetre at a pitch of at least 100 µm. -/
theorem mmToCounts_bounds {p : Nat} (hp : 100 ≤ p) (mm : Nat) :
    0 ≤ mmToCounts p mm ∧ mmToCounts p mm ≤ 10 * mm := by
  unfold mmToCounts roundDiv
  dsimp only
  rw [if_neg (by omega)]
  refine ⟨Int.natCast_nonneg _, ?_⟩
  have micro : ((mm : Int) * 1000).natAbs = mm * 1000 := by omega
  have quotient : (2 * (mm * 1000) + p) / (2 * p) ≤ 10 * mm := by
    have pitched : mm * 100 ≤ mm * p := Nat.mul_le_mul_left mm hp
    refine Nat.le_of_lt_succ ((Nat.div_lt_iff_lt_mul (by omega)).2 ?_)
    calc 2 * (mm * 1000) + p < 20 * (mm * p) + 2 * p := by omega
      _ = (10 * mm + 1) * (2 * p) := by ring
  rw [micro]
  exact_mod_cast quotient

theorem pitch_of_valid {r : LineRecord} (valid : firstFault (lineConditions r) = none) : 100 ≤ r.pitch := by
  have h := condition_of_valid valid (n := 5) (v := inRange 100 2000 r.pitch) (by simp [lineConditions])
  have := inRange_iff.1 h
  omega

/-- The eyes of a valid line record stand within 300000 counts of the scan line. -/
theorem eye_of_valid {r : LineRecord} (valid : firstFault (lineConditions r) = none) (k : Station) :
    ((lineCounts r).eye.get k).natAbs ≤ 400000 := by
  have bounds := mmToCounts_bounds (pitch_of_valid valid)
  have contact : ∀ {n : Nat} {lo hi x : Int}, (n, inRange lo hi x) ∈ lineConditions r → lo ≤ x ∧ x ≤ hi :=
    fun h => inRange_iff.1 (condition_of_valid valid h)
  have contact1 := contact (n := 6) (lo := 1000) (hi := 30000) (x := r.contact1) (by simp [lineConditions])
  have offset1 := contact (n := 8) (lo := 100) (hi := 2000) (x := r.eyeOffset1) (by simp [lineConditions])
  have offset2 := contact (n := 9) (lo := 100) (hi := 2000) (x := r.eyeOffset2) (by simp [lineConditions])
  have contact2 := condition_of_valid valid (n := 7)
    (v := decide (r.contact1 + 500 < r.contact2) && decide (r.contact2 ≤ 30000)) (by simp [lineConditions])
  simp only [Bool.and_eq_true, decide_eq_true_eq] at contact2
  have c1 := bounds r.contact1
  have c2 := bounds r.contact2
  have o1 := bounds r.eyeOffset1
  have o2 := bounds r.eyeOffset2
  cases k
  · show (mmToCounts r.pitch r.contact1 - mmToCounts r.pitch r.eyeOffset1).natAbs ≤ 400000
    omega
  · show (mmToCounts r.pitch r.contact2 - mmToCounts r.pitch r.eyeOffset2).natAbs ≤ 400000
    omega

/-! ## A record and its neighbours -/

section neighbours

variable {id : Nat} {r : LogRecord} {p q : List LogRecord}

theorem successor?_append (hp : ∀ x ∈ p, x.id ≠ id) (hr : r.id = id) : successor? id (p ++ r :: q) = q.head? := by
  induction p with
  | nil => simp [successor?, hr]
  | cons x p ih =>
    have hx : (x.id == id) = false := beq_eq_false_iff_ne.2 (hp x List.mem_cons_self)
    simpa [successor?, hx] using ih fun y hy => hp y (List.mem_cons_of_mem _ hy)

theorem predecessor?_of_ne (hq : ∀ x ∈ q, x.id ≠ id) (r : LogRecord) : predecessor? id (r :: q) = none := by
  induction q generalizing r with
  | nil => rfl
  | cons x q ih =>
    have hx : (x.id == id) = false := beq_eq_false_iff_ne.2 (hq x List.mem_cons_self)
    simpa [predecessor?, hx] using ih (fun y hy => hq y (List.mem_cons_of_mem _ hy)) x

theorem predecessor?_append (hp : ∀ x ∈ p, x.id ≠ id) (hr : r.id = id) (hq : ∀ x ∈ q, x.id ≠ id) :
    predecessor? id (p ++ r :: q) = p.getLast? := by
  induction p with
  | nil => exact predecessor?_of_ne hq r
  | cons x p ih =>
    have ih := ih fun y hy => hp y (List.mem_cons_of_mem _ hy)
    cases p with
    | nil => simp [predecessor?, hr]
    | cons y p =>
      have hy : (y.id == id) = false := beq_eq_false_iff_ne.2 (hp y (by simp))
      rw [List.cons_append, List.cons_append, predecessor?, hy]
      simpa using ih

theorem updateRecord_append (hp : ∀ x ∈ p, x.id ≠ id) (hr : r.id = id) (hq : ∀ x ∈ q, x.id ≠ id)
    (f : LogRecord → LogRecord) : updateRecord id f (p ++ r :: q) = p ++ f r :: q := by
  have kept : ∀ {l : List LogRecord}, (∀ x ∈ l, x.id ≠ id) → updateRecord id f l = l := fun h => by
    refine (List.map_congr_left fun x hx => ?_).trans (List.map_id _)
    simp [h x hx]
  have split : updateRecord id f (p ++ r :: q) = updateRecord id f p ++ f r :: updateRecord id f q := by
    simp [updateRecord, hr]
  rw [split, kept hp, kept hq]

/-- A queued record with what stands before and behind it, where numbers are distinct. -/
theorem split_of_mem {l : List LogRecord} (distinct : (l.map LogRecord.id).Nodup) (hr : r ∈ l) :
    ∃ p q, l = p ++ r :: q ∧ (∀ x ∈ p, x.id ≠ r.id) ∧ ∀ x ∈ q, x.id ≠ r.id := by
  obtain ⟨p, q, rfl⟩ := List.append_of_mem hr
  rw [List.map_append, List.map_cons, List.nodup_middle, List.nodup_cons, List.mem_append] at distinct
  exact ⟨p, q, rfl, fun x hx same => distinct.1 (.inl (same ▸ List.mem_map_of_mem hx)),
    fun x hx same => distinct.1 (.inr (same ▸ List.mem_map_of_mem hx))⟩

end neighbours

/-! ## The order -/

/-- Butt counts rise strictly along the queue (R47). -/
def orderLaw (q : List LogRecord) : Prop := q.Pairwise (fun x y => 0 < travelDiff y.b x.b)

theorem orderLaw_queueLaw : QueueLaw orderLaw where
  nil := .nil
  sublist hp h := List.Pairwise.sublist hp h
  update {q id f} h same := by
    have kept : ∀ r : LogRecord, (if r.id == id then f r else r).b = r.b := fun r => by
      split
      · exact (same r).b
      · rfl
    refine List.pairwise_map.2 (List.Pairwise.imp (fun {x y} hxy => ?_) h)
    rw [kept x, kept y]
    exact hxy

/-- Positions fall strictly along the queue. -/
def fallsFrom (t : Travel) (q : List LogRecord) : Prop := q.Pairwise (fun x y => travelDiff t y.b < travelDiff t x.b)

/-- Within reach of the scan line (R31). -/
def nearTo (t : Travel) (b : Travel) : Prop := (travelDiff t b).natAbs ≤ 4000000

theorem rises_iff_falls {t a b : Travel} (ha : nearTo t a) (hb : nearTo t b) :
    0 < travelDiff b a ↔ travelDiff t b < travelDiff t a := by
  unfold nearTo at ha hb
  rw [travelDiff_of_positions t a b (by omega)]
  omega

/-- Within reach the order is that of the positions. -/
theorem orderLaw_iff_falls {t : Travel} {q : List LogRecord} (near : ∀ r ∈ q, nearTo t r.b) :
    orderLaw q ↔ fallsFrom t q :=
  ⟨fun h => h.imp_of_mem fun hx hy => (rises_iff_falls (near _ hx) (near _ hy)).1,
    fun h => h.imp_of_mem fun hx hy => (rises_iff_falls (near _ hx) (near _ hy)).2⟩

/-- What lies below the last lies below all. -/
theorem falls_above {t : Travel} {q : List LogRecord} (h : fallsFrom t q) {n : Int}
    (last : ∀ z, q.getLast? = some z → n < travelDiff t z.b) : ∀ x ∈ q, n < travelDiff t x.b := by
  intro x hx
  have below := last _ (List.getLast?_eq_some_getLast (List.ne_nil_of_mem hx))
  have split := List.dropLast_append_getLast (List.ne_nil_of_mem hx)
  unfold fallsFrom at h
  rw [← split] at h hx
  obtain hx | hx := List.mem_append.1 hx
  · exact below.trans ((List.pairwise_append.1 h).2.2 x hx _ List.mem_cons_self)
  · rw [List.mem_singleton.1 hx]; exact below

/-- What lies above the first lies above all. -/
theorem falls_below {t : Travel} {q : List LogRecord} (h : fallsFrom t q) {n : Int}
    (first : ∀ y, q.head? = some y → travelDiff t y.b < n) : ∀ x ∈ q, travelDiff t x.b < n := by
  cases q with
  | nil => exact fun _ hx => nomatch hx
  | cons y q =>
    have above := first y rfl
    exact List.forall_mem_cons.2 ⟨above, fun x hx => ((List.pairwise_cons.1 h).1 x hx).trans above⟩

/-- A record below the last falls below all. -/
theorem falls_append {t : Travel} {q : List LogRecord} (h : fallsFrom t q) {r : LogRecord}
    (last : ∀ z, q.getLast? = some z → travelDiff t r.b < travelDiff t z.b) : fallsFrom t (q ++ [r]) := by
  refine List.pairwise_append.2 ⟨h, List.pairwise_singleton _ _, fun x hx y hy => ?_⟩
  obtain rfl := List.mem_singleton.1 hy
  exact falls_above h last x hx

/-- A record inserted before the first below it (R62). -/
theorem falls_insert {t : Travel} {q : List LogRecord} (h : fallsFrom t q) {r : LogRecord} (hr : nearTo t r.b)
    (near : ∀ x ∈ q, nearTo t x.b) (other : ∀ x ∈ q, x.b ≠ r.b) : fallsFrom t (insertRecord r q) := by
  induction q with
  | nil => exact List.pairwise_singleton _ _
  | cons x q ih =>
    obtain ⟨hx, hq⟩ := List.pairwise_cons.1 h
    have near_x := near x List.mem_cons_self
    have distinct : travelDiff t x.b ≠ travelDiff t r.b := fun same =>
      other x List.mem_cons_self (travelDiff_injective same)
    unfold insertRecord
    split
    · next rises =>
      have below := (rises_iff_falls hr near_x).1 rises
      exact List.pairwise_cons.2 ⟨List.forall_mem_cons.2 ⟨below, fun y hy => (hx y hy).trans below⟩, h⟩
    · next rises =>
      have above := mt (rises_iff_falls hr near_x).2 rises
      refine List.pairwise_cons.2 ⟨fun y hy => ?_, ih hq (fun y hy => near y (List.mem_cons_of_mem _ hy))
        fun y hy => other y (List.mem_cons_of_mem _ hy)⟩
      obtain rfl | tail := List.mem_cons.1 ((State.Bound.insertRecord_perm r q).mem_iff.1 hy)
      · omega
      · exact hx y tail

/-- A record rebased between its neighbours (R60). -/
theorem falls_rebase {t : Travel} {q : List LogRecord} (distinct : (q.map LogRecord.id).Nodup) (h : fallsFrom t q)
    {r : LogRecord} (hr : r ∈ q) {b : Travel} (hb : nearTo t b) (near : ∀ x ∈ q, nearTo t x.b)
    (kept : keepsOrder r.id b q = true) : fallsFrom t (updateRecord r.id (fun x => { x with b := b }) q) := by
  obtain ⟨before, behind, rfl, others, others'⟩ := split_of_mem distinct hr
  rw [updateRecord_append others rfl others']
  obtain ⟨hbefore, hrest, across⟩ := List.pairwise_append.1 h
  obtain ⟨-, hbehind⟩ := List.pairwise_cons.1 hrest
  unfold keepsOrder at kept
  rw [predecessor?_append others rfl others', successor?_append others rfl, Bool.and_eq_true] at kept
  have above : ∀ x ∈ before, travelDiff t b < travelDiff t x.b := by
    refine falls_above hbefore fun z hz => ?_
    have order := kept.1
    rw [hz] at order
    exact (rises_iff_falls (near z (List.mem_append_left _ (List.mem_of_getLast? hz))) hb).1 (of_decide_eq_true order)
  have below : ∀ x ∈ behind, travelDiff t x.b < travelDiff t b := by
    refine falls_below hbehind fun y hy => ?_
    have order := kept.2
    rw [hy] at order
    have queued : y ∈ behind := List.mem_of_mem_head? hy
    exact (rises_iff_falls hb (near y (List.mem_append_right _ (List.mem_cons_of_mem _ queued)))).1
      (of_decide_eq_true order)
  refine List.pairwise_append.2 ⟨hbefore, List.pairwise_cons.2 ⟨below, hbehind⟩, fun x hx y hy => ?_⟩
  obtain rfl | tail := List.mem_cons.1 hy
  · exact above x hx
  · exact across x hx y (List.mem_cons_of_mem _ tail)

/-! ## Every command -/

/-- What the order is kept from: within reach, with distinct records, under a valid line record. -/
structure State.Orderly (s : State) : Prop where
  order : s.OrderOk
  reach : s.InReach
  distinct : (s.tracker.queue.map LogRecord.id).Nodup
  line : ∀ l, s.mode.line = some l → firstFault (lineConditions l.record) = none ∧ l.counts = lineCounts l.record

namespace State.Orderly

variable {s : State}

theorem falls (h : s.Orderly) : fallsFrom s.travel.t s.tracker.queue := (orderLaw_iff_falls h.reach).1 h.order

theorem eye_near (h : s.Orderly) {l : Line} (hl : s.mode.line = some l) (k : Station) :
    nearTo s.travel.t (travelBack s.travel.t (l.counts.eye.get k)) := by
  obtain ⟨valid, counts⟩ := h.line l hl
  have bound := eye_of_valid valid k
  rw [← counts] at bound
  unfold nearTo
  rw [travelDiff_travelBack _ (by omega)]
  omega

theorem scan (h : s.Orderly) (p : List Byte) : (takeScan p s).Queued orderLaw := by
  refine orderLaw_queueLaw.scan h.order (fun l f hl accepted => ?_) p
  have counted := mmToCounts_bounds (pitch_of_valid (h.line l hl).1) (min f.buttDistance 30000)
  have near : nearTo s.travel.t (scanButt s l f) := by
    unfold nearTo scanButt
    rw [travelDiff_travelBack _ (by omega)]
    omega
  have all : ∀ x ∈ s.tracker.queue ++ [scanRecord s l f (scanButt s l f)], nearTo s.travel.t x.b := by
    intro x hx
    obtain hx | hx := List.mem_append.1 hx
    · exact h.reach x hx
    · rw [List.mem_singleton.1 hx]; exact near
  refine (orderLaw_iff_falls all).2 (falls_append h.falls fun z hz => ?_)
  unfold scanRejected at accepted
  dsimp only at accepted
  rw [hz] at accepted
  simp only [Bool.or_eq_false_iff, decide_eq_false_iff_not, not_le] at accepted
  exact accepted.1.2

theorem eye (h : s.Orderly) (k : Station) (d : Bool) : (eyeChange k d s).Queued orderLaw := by
  refine orderLaw_queueLaw.eye h.order d (fun l r hl hr kept => ?_) fun l r hl hb other _ _ => ?_
  · have near : ∀ x ∈ updateRecord r.id (fun x => { x with b := travelBack s.travel.t (l.counts.eye.get k) })
        s.tracker.queue, nearTo s.travel.t x.b := by
      intro x hx
      obtain ⟨y, hy, rfl⟩ := List.mem_map.1 hx
      split
      · exact h.eye_near hl k
      · exact h.reach y hy
    exact (orderLaw_iff_falls near).2 (falls_rebase h.distinct h.falls hr (h.eye_near hl k) h.reach kept)
  · have near : nearTo s.travel.t r.b := hb ▸ h.eye_near hl k
    have all : ∀ x ∈ insertRecord r s.tracker.queue, nearTo s.travel.t x.b := by
      intro x hx
      obtain rfl | tail := List.mem_cons.1 ((State.Bound.insertRecord_perm r _).mem_iff.1 hx)
      · exact near
      · exact h.reach x tail
    exact (orderLaw_iff_falls all).2 (falls_insert h.falls near h.reach other)

theorem commandsLead : CommandsLead State.Orderly (State.Queued orderLaw) :=
  orderLaw_queueLaw.commandsLead (fun h => h.order) (fun h _ => ⟨h.order, h.reach, h.distinct, h.line⟩)
    (fun h _ => ⟨h.order, h.reach, h.distinct, h.line⟩) (fun h _ => ⟨h.order, h.reach, h.distinct, h.line⟩)
    (fun h p => h.scan p) fun h k d => h.eye k d

end State.Orderly

/-- Settles O4: the capacities and the tags as invariants, the order from what surrounds it. -/
theorem capacitiesKept : Obligations.CapacitiesKept := fun _ _ stepped =>
  ⟨fun ok => State.capacityOk_iff.2 (State.Within.commandsLead.step (State.capacityOk_iff.1 ok) stepped),
    fun ok => tags_commandsLead.step ok stepped,
    fun order reach tables arms =>
      State.Orderly.commandsLead.step ⟨order, reach, tables.distinct, arms.line⟩ stepped⟩

end Sys2Proof.Machine
end

section
/-! PROOFS. The machine as a whole: a step, the state after hardware reset, the invariants there, and a counter raised. -/

namespace Sys2Proof.Machine

/-- Settles O1. -/
theorem stepRunsFrontCommand : Obligations.StepRunsFrontCommand := by
  intro s c rest front
  simp only [step, front]

theorem Counters.get_of_mem_reset {k : Nat} (h : k ∈ State.reset.requests.counters.toList) : k = 0 := by
  obtain ⟨c, rfl⟩ := Counters.mem_toList.1 h
  exact Counters.zero_get c

/-- Settles O2: block by block, as `State.reset` is written. -/
theorem hardwareResetState : Obligations.HardwareResetState := by
  have banks : ∀ k, State.reset.tables.bank k = Bank.reset := fun k => by cases k <;> rfl
  have channels : ∀ k, State.reset.arms.channels.get k = List.replicate 5 Channel.reset := fun k => by cases k <;> rfl
  have nodes : ∀ k, State.reset.cycle.nodes.get k = Node.reset := fun k => by cases k <;> rfl
  have rotors : ∀ k, State.reset.inputs.rotors.get k = Rotor.reset := fun k => by cases k <;> rfl
  have eyes : ∀ k, State.reset.inputs.eyes.get k = Eye.reset := fun k => by cases k <;> rfl
  exact ⟨fun _ _ _ _ => rfl, rfl, rfl, rfl, rfl, fun _ => Counters.get_of_mem_reset, rfl, rfl, banks, rfl, rfl, channels,
    rfl, rfl, rfl, rfl, nodes, rfl, rotors, eyes, rfl, rfl, rfl, rfl, rfl, rfl, rfl, rfl, rfl, rfl, rfl⟩

/-- Settles O3: each invariant where its proof begins. -/
theorem invariantsHoldAtReset : Obligations.InvariantsHoldAtReset := by
  have bound := State.Bound.reset True false false false []
  exact ⟨State.capacityOk_iff.2 (State.Within.reset false false false []), State.ModeOk.reset false false false [],
    bound.tables, State.InputsOk.reset false false false [], State.ArmsOk.reset false false false [],
    fun k id hk => bound.engaged trivial k id hk nofun, tagLaw_queueLaw.nil, orderLaw_queueLaw.nil⟩

/-- Settles O17. -/
theorem counterRisesByOneAndHolds : Obligations.CounterRisesByOneAndHolds := fun s c _ =>
  ⟨Counters.get_bump_same s.requests.counters c, Counters.get_bump_other s.requests.counters, rfl⟩

end Sys2Proof.Machine
end

section
/-! PROOFS. The receivers (R3, R4, R6, R7, R15): what a byte makes a receiver do, one equation per case, carried to both
ports, and the claims about bytes and gaps read off them. -/

namespace Sys2Proof.Machine

/-! ## The receiver -/

namespace Receiver

variable {rx : Receiver} {b v : Byte}

/-- A frame goes on: its header or its body is not yet complete with one more byte. -/
def goesOn (rx : Receiver) : Prop :=
  (rx.phase = .header ∧ rx.gathered.length < 4) ∨ ∃ d sr k l, rx.phase = .body d sr k l ∧ rx.gathered.length < l.toNat + 1

theorem goesOn.receiving (h : rx.goesOn) : rx.phase ≠ .hunt := by
  obtain ⟨hp, -⟩ | ⟨d, sr, k, l, hp, -⟩ := h <;> rw [hp] <;> exact nofun

/-- An ESC is not gathered and sets the mark (R3). -/
theorem take_esc (now : Nat) (hp : rx.phase ≠ .hunt) (he : rx.escPending = false) :
    rx.take now 0xB7#8 = ({ rx with escPending := true, gapFrom := now }, .quiet) := by
  simp [take, receiving, hp, he, Config.startByte, Config.idleByte, Config.escByte]

/-- A data byte of a frame that goes on is gathered (R3). -/
theorem take_gathers (now : Nat) (more : rx.goesOn) (h : rx.reads b v) :
    rx.take now b = ({ rx with escPending := false, gathered := rx.gathered ++ [v], gapFrom := now }, .quiet) := by
  rw [take_of_reads now more.receiving h]
  obtain ⟨hp, few⟩ | ⟨d, sr, k, l, hp, few⟩ := more
  · have short : ((rx.gathered ++ [v]).length == 5) = false := by simp; omega
    simp only [gather, hp, short, Bool.false_eq_true, if_false]
  · have short : ((rx.gathered ++ [v]).length == l.toNat + 2) = false := by simp; omega
    simp only [gather, hp, short, Bool.false_eq_true, if_false]

/-- A good header begins the body (R6). -/
theorem take_header (now : Nat) {b0 b1 b2 b3 : Byte} {g : GoodHeader} (hp : rx.phase = .header)
    (four : rx.gathered = [b0, b1, b2, b3]) (h : rx.reads b v) (good : checkHeader b0 b1 b2 b3 v = some g) :
    rx.take now b =
      ({ phase := .body g.dest g.src g.kind g.len, escPending := false, gathered := [], gapFrom := now },
        .headerGood g.corrected) := by
  rw [take_of_reads now (by rw [hp]; exact nofun) h]
  simp [gather, hp, four, endHeader, good]

theorem spoils_start (now : Nat) (hp : rx.phase ≠ .hunt) :
    rx.spoils now 0xB6#8 { phase := .header, escPending := false, gathered := [], gapFrom := now } .framesAborted :=
  ⟨hp, .inl ⟨rfl, rfl, rfl⟩⟩

theorem spoils_abort (now : Nat) (hp : rx.phase ≠ .hunt)
    (h : b = 0xB8#8 ∨ rx.escPending = true ∧ b ≠ 0xB6#8 ∧ b ≠ 0x96#8 ∧ b ≠ 0x97#8 ∧ b ≠ 0x98#8) :
    rx.spoils now b rx.hunted .framesAborted :=
  ⟨hp, .inr (.inl ⟨h, rfl, rfl⟩)⟩

theorem spoils_header (now : Nat) {b0 b1 b2 b3 : Byte} (hp : rx.phase = .header) (four : rx.gathered = [b0, b1, b2, b3])
    (h : rx.reads b v) (bad : checkHeader b0 b1 b2 b3 v = none) : rx.spoils now b rx.hunted .hecFailed :=
  ⟨by rw [hp]; exact nofun, .inr (.inr (.inl ⟨v, b0, b1, b2, b3, hp, four, h, bad, rfl, rfl⟩))⟩

theorem spoils_crc (now : Nat) {d sr k l : Byte} (hp : rx.phase = .body d sr k l)
    (last : rx.gathered.length = l.toNat + 1) (h : rx.reads b v)
    (bad : crcBytes (rx.gathered.take l.toNat) ≠ (rx.gathered ++ [v]).drop l.toNat) :
    rx.spoils now b rx.hunted .crcFailed :=
  ⟨by rw [hp]; exact nofun, .inr (.inr (.inr ⟨v, d, sr, k, l, hp, last, h, bad, rfl, rfl⟩))⟩

end Receiver

/-! ## Port U -/

/-- The Port U receiver replaced. -/
def State.withRxU (s : State) (r : Receiver) : State := { s with portU := { s.portU with rx := r } }

section portU

variable {s : State} {b : Byte} {r : Receiver}

theorem byteU_of_quiet (h : s.portU.rx.take s.now b = (r, .quiet)) : byteU b s = s.withRxU r := by
  unfold byteU
  rw [h]
  rfl

theorem byteU_of_begun (h : s.portU.rx.take s.now b = (r, .begun)) : byteU b s = s.withRxU r := by
  unfold byteU
  rw [h]
  rfl

theorem byteU_of_header {c : Bool} (h : s.portU.rx.take s.now b = (r, .headerGood c)) :
    byteU b s = if c = true then (s.withRxU r).counted .hecCorrected else s.withRxU r := by
  unfold byteU
  rw [h]
  cases c <;> rfl

/-- A frame that ends badly is counted once, in the counter of its cause (R4, R6, R7). -/
theorem byteU_of_spoils {c : Counter} (h : s.portU.rx.spoils s.now b r c) : byteU b s = (s.withRxU r).counted c := by
  obtain ⟨x, taken, ends, counts⟩ := Receiver.take_of_spoils h
  unfold byteU
  rw [taken]
  dsimp only
  rw [countReport, counts]
  obtain rfl | rfl | rfl := ends <;> rfl

/-- A good frame is counted and routed in the step of its last byte (R7, log 1). -/
theorem byteU_of_completes {f : Frame} (h : s.portU.rx.completes b f) :
    byteU b s = routeU f ((s.withRxU s.portU.rx.hunted).counted .uFramesOk) := by
  unfold byteU
  rw [Receiver.take_of_completes s.now h]
  rfl

end portU

/-- Settles O13: HUNT, an ESC, and a data byte of a frame that goes on. -/
theorem receiverGathersBytes : Obligations.ReceiverGathersBytes := by
  intro s b rx put more
  refine ⟨fun hunt other => ?_, fun hunt start => ?_, fun receiving plain esc => ?_, fun on plain n1 n2 n3 => ?_,
    fun on escaped hb => ?_⟩
  · have taken : rx.take s.now b = (rx, .quiet) := by rw [Receiver.take_hunt hunt, if_neg other]
    exact congrArg Host.Outcome.next (byteU_of_quiet taken)
  · have taken : rx.take s.now b = (Receiver.beginFrame s.now, .begun) := by rw [Receiver.take_hunt hunt, if_pos start]
    exact congrArg Host.Outcome.next (byteU_of_begun taken)
  · subst esc
    exact congrArg Host.Outcome.next (byteU_of_quiet (Receiver.take_esc s.now receiving plain))
  · have gathered := byteU_of_quiet (Receiver.take_gathers s.now on (.inl ⟨plain, n1, n2, n3, rfl⟩))
    rw [← plain] at gathered
    exact congrArg Host.Outcome.next gathered
  · exact congrArg Host.Outcome.next (byteU_of_quiet (Receiver.take_gathers s.now on (.inr ⟨escaped, hb, rfl⟩)))

/-- Settles O14: each bad end is one that spoils the reception; a good header begins the body. -/
theorem receiverDiscardsBadFrames : Obligations.ReceiverDiscardsBadFrames := by
  intro s b v rx put hunt data
  have spoiled : ∀ {r c}, rx.spoils s.now b r c → exec (.receiveByte .u b) s = .next ((put r).counted c) :=
    fun h => congrArg Host.Outcome.next (byteU_of_spoils h)
  refine ⟨fun receiving start => ?_, fun receiving idle => ?_, fun receiving escaped n0 n1 n2 n3 => ?_,
    fun b0 b1 b2 b3 header four reads bad => ?_, fun b0 b1 b2 b3 g header four reads good => ?_,
    fun d sr k l body last reads bad => ?_⟩
  · subst start
    exact spoiled (Receiver.spoils_start s.now receiving)
  · exact spoiled (Receiver.spoils_abort s.now receiving (.inl idle))
  · exact spoiled (Receiver.spoils_abort s.now receiving (.inr ⟨escaped, n0, n1, n2, n3⟩))
  · exact spoiled (Receiver.spoils_header s.now header four reads bad)
  · exact congrArg Host.Outcome.next (byteU_of_header (Receiver.take_header s.now header four reads good))
  · exact spoiled (Receiver.spoils_crc s.now body last reads bad)

/-! ## Port D -/

/-- The Port D receiver replaced. -/
def State.withRxD (s : State) (r : Receiver) : State := { s with portD := { s.portD with rx := r } }

section portD

variable {s : State} {b : Byte} {r : Receiver}

/-- A byte on a released line (R3). -/
theorem byteD_of_released (h : s.portD.tx = none) :
    byteD b s = reportD (s.portD.rx.take s.now b).2
      (countReport .dFramesOk (s.portD.rx.take s.now b).2 (s.withRxD (s.portD.rx.take s.now b).1)) := by
  unfold byteD
  rw [h]
  rfl

theorem byteD_of_quiet (ht : s.portD.tx = none) (h : s.portD.rx.take s.now b = (r, .quiet)) :
    byteD b s = s.withRxD r := by
  rw [byteD_of_released ht, h]
  rfl

theorem byteD_of_begun (ht : s.portD.tx = none) (h : s.portD.rx.take s.now b = (r, .begun)) :
    byteD b s = startSeenD (s.withRxD r) := by
  rw [byteD_of_released ht, h]
  rfl

theorem byteD_of_header {c : Bool} (ht : s.portD.tx = none) (h : s.portD.rx.take s.now b = (r, .headerGood c)) :
    byteD b s = if c = true then (s.withRxD r).counted .hecCorrected else s.withRxD r := by
  rw [byteD_of_released ht, h]
  cases c <;> rfl

/-- A frame that ends badly is counted once and ends a wait (R4, R6, R7, R15). -/
theorem byteD_of_spoils {c : Counter} (ht : s.portD.tx = none) (h : s.portD.rx.spoils s.now b r c) :
    byteD b s = badFrameD ((s.withRxD r).counted c) := by
  obtain ⟨x, taken, ends, counts⟩ := Receiver.take_of_spoils h
  rw [byteD_of_released ht, taken]
  dsimp only
  rw [countReport, counts]
  obtain rfl | rfl | rfl := ends <;> rfl

/-- A good frame is counted and judged in the step of its last byte (R7, R15, log 1). -/
theorem byteD_of_completes {f : Frame} (ht : s.portD.tx = none) (h : s.portD.rx.completes b f) :
    byteD b s = goodFrameD f ((s.withRxD s.portD.rx.hunted).counted .dFramesOk) := by
  rw [byteD_of_released ht, Receiver.take_of_completes s.now h]
  rfl

/-- With no wait a bad end has no other effect (R15). -/
theorem badFrameD_of_no_wait (h : s.cycle.wait = none) : badFrameD s = s := by
  unfold badFrameD
  split
  · next hw _ => cases h.symm.trans hw
  · next hw _ => cases h.symm.trans hw
  · rfl

/-- With no wait a good frame is UNSOLICITED (R15, R155). -/
theorem goodFrameD_of_no_wait (h : s.cycle.wait = none) (f : Frame) : goodFrameD f s = s.counted .unsolicited := by
  unfold goodFrameD
  split
  · next hw _ => cases h.symm.trans hw
  · next hw _ => cases h.symm.trans hw
  · rfl

/-- A START cancels the timeout of a wait in progress (R149). -/
theorem startSeenD_eq (s : State) :
    startSeenD s = { s with cycle := { s.cycle with wait := s.cycle.wait.map (fun w => { w with begun := true }) } } := by
  unfold startSeenD
  cases hw : s.cycle.wait with
  | none => exact congrArg (fun w => ({ s with cycle := { s.cycle with wait := w } } : State)) hw
  | some w => rfl

/-- While the transmitter drives, a byte counts only at the moment of a cut (R3, R162). -/
theorem byteD_of_driven (h : s.portD.tx ≠ none) : byteD b s = byteAtCut b s := by
  unfold byteD
  split
  · rfl
  · next none => exact absurd none h

theorem byteAtCut_of_no_cut (h : ∀ c, s.portD.cut = some c → c.moment ≠ s.now) : byteAtCut b s = s := by
  unfold byteAtCut
  split
  · rfl
  · next c hc => rw [if_neg (by simpa using h c hc)]

end portD

/-- Settles O15: a driven line, a released one in HUNT, in reception, and at the end of a frame with no wait. -/
theorem portDReceiverTakesBytes : Obligations.PortDReceiverTakesBytes := by
  intro s b v rx put hunt takes data more heard
  have take : ∀ {t}, byteD b s = t → takes t := fun h => congrArg Host.Outcome.next h
  refine ⟨fun driven away => ?_, fun c driven cut moment => ⟨fun f good => ?_, fun r x bad => ?_, fun ng nb => ?_⟩,
    fun free hunting other => ?_, fun free hunting start => ?_, fun free receiving plain esc => ?_,
    fun free on reads => ?_, fun b0 b1 b2 b3 g free header four reads good => ?_, fun free alone receiving => ?_⟩
  · exact take ((byteD_of_driven driven).trans (byteAtCut_of_no_cut away))
  · exact take ((byteD_of_driven driven).trans (byteAtCut_of_completes cut moment good))
  · exact take ((byteD_of_driven driven).trans (byteAtCut_of_spoils cut moment bad))
  · exact take ((byteD_of_driven driven).trans (byteAtCut_of_neither cut moment ng nb))
  · have taken : rx.take s.now b = (rx, .quiet) := by rw [Receiver.take_hunt hunting, if_neg other]
    exact take (byteD_of_quiet free taken)
  · have taken : rx.take s.now b = (Receiver.beginFrame s.now, .begun) := by rw [Receiver.take_hunt hunting, if_pos start]
    exact take ((byteD_of_begun free taken).trans (startSeenD_eq _))
  · subst esc
    exact take (byteD_of_quiet free (Receiver.take_esc s.now receiving plain))
  · exact take (byteD_of_quiet free (Receiver.take_gathers s.now on reads))
  · exact take (byteD_of_header free (Receiver.take_header s.now header four reads good))
  · have spoiled : ∀ {r c}, rx.spoils s.now b r c → takes ((put r).counted c) := fun h =>
      take ((byteD_of_spoils free h).trans (badFrameD_of_no_wait alone))
    refine ⟨fun start => ?_, fun abort => ?_, fun b0 b1 b2 b3 header four reads bad => ?_,
      fun d sr k l body last reads => ⟨fun bad => ?_, fun good => ?_⟩⟩
    · subst start
      exact spoiled (Receiver.spoils_start s.now receiving)
    · exact spoiled (Receiver.spoils_abort s.now receiving abort)
    · exact spoiled (Receiver.spoils_header s.now header four reads bad)
    · exact spoiled (Receiver.spoils_crc s.now body last reads bad)
    · have complete : rx.completes b ⟨d, sr, k, rx.gathered.take l.toNat⟩ := ⟨v, l, body, last, reads, rfl, good⟩
      exact take ((byteD_of_completes free complete).trans (goodFrameD_of_no_wait (by exact alone) _))

/-! ## The byte gap -/

theorem Receiver.receiving_iff {rx : Receiver} : rx.receiving = true ↔ rx.phase ≠ .hunt := by simp [Receiver.receiving]

theorem gapU_of_receiving {s : State} (h : s.portU.rx.phase ≠ .hunt) :
    gapU s = ((s.reach (s.portU.rx.gapFrom + 50)).withRxU s.portU.rx.hunted).counted .framesAborted := by
  unfold gapU
  rw [if_pos (Receiver.receiving_iff.2 h)]
  rfl

theorem gapD_of_receiving {s : State} (h : s.portD.rx.phase ≠ .hunt) :
    gapD s = badFrameD (((s.reach (s.portD.rx.gapFrom + 50)).withRxD s.portD.rx.hunted).counted .framesAborted) := by
  unfold gapD
  rw [if_pos (Receiver.receiving_iff.2 h)]
  rfl

/-- Settles O16: the gap ends a reception, and nothing else. -/
theorem byteGapAborts : Obligations.ByteGapAborts := by
  intro s
  refine ⟨fun receiving => ?_, fun receiving alone => ?_, fun hunting => ?_, fun hunting => ?_⟩
  · exact congrArg Host.Outcome.next (gapU_of_receiving receiving)
  · exact congrArg Host.Outcome.next ((gapD_of_receiving receiving).trans (badFrameD_of_no_wait alone))
  · exact congrArg Host.Outcome.next (if_neg (by simp [Receiver.receiving, hunting]))
  · exact congrArg Host.Outcome.next (if_neg (by simp [Receiver.receiving, hunting]))

end Sys2Proof.Machine
end

section
/-! PROOFS. The Frame Switch: the lines of R9 as equations of the routing, and the upstream arbiter (R13). -/

namespace Sys2Proof.Machine

/-! ## The lines of R9 -/

theorem invalidDest_iff (d : Byte) : invalidDest d = true ↔ d = 0#8 ∨ 240 ≤ d.toNat ∧ d.toNat ≤ 253 := by
  simp [invalidDest]

theorem logKind_iff (k : Byte) : (k == 0x10#8 || k == 0x11#8) = true ↔ k.toNat = 0x10 ∨ k.toNat = 0x11 := by
  simp [BitVec.toNat_eq]

theorem forwardKind_iff (k : Byte) :
    forwardKind k = true ↔ k.toNat = 0x20 ∨ k.toNat = 0x21 ∨ 0x40 ≤ k.toNat ∧ k.toNat ≤ 0x7F := by
  simp [forwardKind, BitVec.toNat_eq, or_assoc]

theorem requestKind_iff (k : Byte) : (k == 0x20#8) = true ↔ k.toNat = 0x20 := by
  simp [BitVec.toNat_eq]

theorem repliedKind_iff (k : Byte) : repliedKind k = true ↔ k.toNat = 0x20 ∨ 0x40 ≤ k.toNat ∧ k.toNat ≤ 0x5F := by
  simp [repliedKind, BitVec.toNat_eq]

section lines

variable {s : State} {f : Frame}

theorem routeU_of_invalid (h : f.dest = 0#8 ∨ 240 ≤ f.dest.toNat ∧ f.dest.toNat ≤ 253) :
    routeU f s = s.counted .forbiddenKind :=
  if_pos ((invalidDest_iff _).2 h)

/-- A log frame goes to the Log Tracker, and its copy downstream (R9). -/
theorem routeU_of_log (valid : invalidDest f.dest = false) (kind : f.kind = 0x10#8 ∨ f.kind = 0x11#8) :
    routeU f s = offerCopy f (if f.kind = 0x10#8 then takeScan f.payload s else takeVoid f.payload s) := by
  have log : (f.kind == 0x10#8 || f.kind == 0x11#8) = true := by simpa using kind
  simp only [routeU, valid, Bool.false_eq_true, if_false, log, if_true, routeLog, beq_iff_eq]

theorem routeU_of_unknown (log : ¬ (f.kind.toNat = 0x10 ∨ f.kind.toNat = 0x11))
    (unknown : ¬ (f.kind.toNat = 0x20 ∨ f.kind.toNat = 0x21 ∨ 0x40 ≤ f.kind.toNat ∧ f.kind.toNat ≤ 0x7F)) :
    routeU f s = s.counted .forbiddenKind := by
  unfold routeU
  split
  · rfl
  · rw [if_neg (mt (logKind_iff _).1 log), if_neg (mt (forwardKind_iff _).1 unknown)]
    rfl

/-- A REQUEST, REPLY, query or notice goes by its destination (R9). -/
theorem routeU_of_forwardKind (valid : ¬ (f.dest = 0#8 ∨ 240 ≤ f.dest.toNat ∧ f.dest.toNat ≤ 253))
    (kind : f.kind.toNat = 0x20 ∨ f.kind.toNat = 0x21 ∨ 0x40 ≤ f.kind.toNat ∧ f.kind.toNat ≤ 0x7F) :
    routeU f s = routeByDest f s := by
  unfold routeU
  rw [if_neg (mt (invalidDest_iff _).1 valid), if_neg (mt (logKind_iff _).1 (by omega)),
    if_pos ((forwardKind_iff _).2 kind)]

theorem routeByDest_own_request (own : f.dest = s.switch.ownAddr) (kind : f.kind.toNat = 0x20) :
    routeByDest f s = takeRequest f.src f.payload s := by
  unfold routeByDest
  rw [if_pos (by simpa using own), if_pos ((requestKind_iff _).2 kind)]

theorem routeByDest_own_other (own : f.dest = s.switch.ownAddr) (kind : f.kind.toNat ≠ 0x20) :
    routeByDest f s = s.counted .forbiddenKind := by
  unfold routeByDest
  rw [if_pos (by simpa using own), if_neg (mt (requestKind_iff _).1 kind)]
  rfl

theorem routeByDest_broadcast_request (other : f.dest ≠ s.switch.ownAddr) (all : f.dest = 255#8)
    (kind : f.kind.toNat = 0x20) : routeByDest f s = s.counted .forbiddenKind := by
  unfold routeByDest
  rw [if_neg (by simpa using other), if_pos (by simp [all, Config.broadcast]), if_pos ((requestKind_iff _).2 kind)]
  rfl

theorem routeByDest_broadcast (other : f.dest ≠ s.switch.ownAddr) (all : f.dest = 255#8) (kind : f.kind.toNat ≠ 0x20) :
    routeByDest f s = offerDown f false s := by
  unfold routeByDest
  rw [if_neg (by simpa using other), if_pos (by simp [all, Config.broadcast]), if_neg (mt (requestKind_iff _).1 kind)]

theorem routeByDest_station (other : f.dest ≠ s.switch.ownAddr) (one : f.dest ≠ 255#8) :
    routeByDest f s = offerDown f (repliedKind f.kind) s := by
  unfold routeByDest
  rw [if_neg (by simpa using other), if_neg (by simpa [Config.broadcast] using one)]

end lines

/-- Settles O18: the discarding lines of R9, an invalid destination before all others. -/
theorem forbiddenFramesAreCounted : Obligations.ForbiddenFramesAreCounted := by
  intro s f k other forbidden
  have discards : routeU f s = s.counted .forbiddenKind → exec (.forbiddenKind f) s = .next (s.counted .forbiddenKind) :=
    congrArg Host.Outcome.next
  by_cases invalid : f.dest = 0#8 ∨ 240 ≤ f.dest.toNat ∧ f.dest.toNat ≤ 253
  · exact discards (routeU_of_invalid invalid)
  · obtain zero | range | ⟨n10, n11, n20, unknown⟩ | ⟨own, kind⟩ | ⟨all, notOwn, request⟩ := forbidden
    · exact absurd (.inl zero) invalid
    · exact absurd (.inr range) invalid
    · exact discards (routeU_of_unknown (not_or.2 ⟨n10, n11⟩) (not_or.2 ⟨n20, unknown⟩))
    · have notRequest : f.kind.toNat ≠ 0x20 := fun c => by
        have kind : f.kind.toNat = 0x21 ∨ (0x40 ≤ f.kind.toNat ∧ f.kind.toNat ≤ 0x7F) := kind
        omega
      exact discards ((routeU_of_forwardKind invalid (.inr kind)).trans (routeByDest_own_other own notRequest))
    · exact discards ((routeU_of_forwardKind invalid (.inl request)).trans
        (routeByDest_broadcast_request (fun own => notOwn (own.symm.trans all)) all request))

/-- What a command's outcome answers is what its operation leaves. -/
theorem answers_next {c : Instr} {s u : State} (h : exec c s = .next u) :
    (fun t => exec c s = .next t) = (fun t => u = t) :=
  funext fun _ => propext ⟨fun g => Host.Outcome.next.inj (h.symm.trans g), fun g => g ▸ h⟩

/-- Settles O19: a frame for another station is offered downstream, awaiting a reply by its kind and destination. -/
theorem forwardedFramesAreQueuedOrDropped : Obligations.ForwardedFramesAreQueuedOrDropped := by
  intro s f k query forwarded ⟨kind, other, dest⟩
  have kind : ((f.kind.toNat = 0x20 ∨ 0x40 ≤ f.kind.toNat ∧ f.kind.toNat ≤ 0x5F) ∨ f.kind.toNat = 0x21
    ∨ 0x60 ≤ f.kind.toNat ∧ f.kind.toNat ≤ 0x7F) := kind
  have valid : ¬ (f.dest = 0#8 ∨ 240 ≤ f.dest.toNat ∧ f.dest.toNat ≤ 253) := by
    have zero : f.dest = 0#8 → f.dest.toNat = 0 := fun c => by rw [c]; rfl
    obtain range | last | ⟨all, -⟩ := dest
    · rintro (none | high)
      · have := zero none; omega
      · omega
    · rw [last]; decide
    · rw [all]; decide
  have routed : routeU f s = offerDown f (decide (query ∧ f.dest ≠ 255#8)) s := by
    rw [routeU_of_forwardKind valid (by omega)]
    by_cases all : f.dest = 255#8
    · obtain ⟨-, notRequest⟩ : f.dest = 255#8 ∧ f.kind.toNat ≠ 0x20 :=
        ⟨all, by
          obtain range | last | ⟨-, kind⟩ := dest
          · rw [all] at range; exact absurd range.2 (by decide)
          · rw [all] at last; cases last
          · exact kind⟩
      rw [routeByDest_broadcast other all notRequest, decide_eq_false fun c => c.2 all]
    · have awaited : repliedKind f.kind = decide (query ∧ f.dest ≠ 255#8) := by
        rw [Bool.eq_iff_iff, repliedKind_iff, decide_eq_true_eq]
        exact ⟨fun c => ⟨c, all⟩, fun c => c.1⟩
      rw [routeByDest_station other all, awaited]
  rw [answers_next (c := .forwardDownstream f) (congrArg Host.Outcome.next routed)]
  exact offerDown_follows s f _

/-! ## The upstream arbiter -/

theorem arbitrate_of_none {s : State} (h : chooseSource s.switch.mark s.requests.replies s.switch.up = none) :
    arbitrate s = driveU s.portU.byteEnds none (s.reach s.portU.byteEnds) := by
  unfold arbitrate
  dsimp only [State.reach]
  rw [h]

theorem arbitrate_of_some {s : State} {k : Source}
    (h : chooseSource s.switch.mark s.requests.replies s.switch.up = some k) :
    arbitrate s = driveU s.portU.byteEnds (nextOf k s) (takeFrom k (s.reach s.portU.byteEnds)) := by
  unfold arbitrate
  dsimp only [State.reach]
  rw [h]
  rfl

/-- Settles O20: the queues as they stand, and the mark where both wait. -/
theorem arbiterAlternatesSources : Obligations.ArbiterAlternatesSources := by
  intro s f g rest restUp at_ later idle sent reply forward
  refine ⟨fun noReply noFrame => ?_, fun replies turn => ?_, fun up turn => ?_⟩
  · have chosen : chooseSource s.switch.mark s.requests.replies s.switch.up = none := by rw [noReply, noFrame]; rfl
    exact congrArg Host.Outcome.next (arbitrate_of_none chosen)
  · have chosen : chooseSource s.switch.mark s.requests.replies s.switch.up = some .replyQueue := by
      rw [replies]
      obtain none | mark := turn
      · rw [none]; rfl
      · rw [mark]; cases s.switch.up <;> rfl
    have served : arbitrate s = reply := by
      simp only [arbitrate_of_some chosen, nextOf, takeFrom, State.reach, replies]
      rfl
    exact congrArg Host.Outcome.next served
  · have chosen : chooseSource s.switch.mark s.requests.replies s.switch.up = some .forwardQueue := by
      rw [up]
      obtain none | mark := turn
      · rw [none]; rfl
      · rw [mark]; cases s.requests.replies <;> rfl
    have served : arbitrate s = forward := by
      simp only [arbitrate_of_some chosen, nextOf, takeFrom, State.reach, up]
      rfl
    exact congrArg Host.Outcome.next served

end Sys2Proof.Machine
end

section
/-! PROOFS. The header check against wrong bits (R5, R6): the position sum and the parities are additive for exclusive
or, so that a wrong bit adds its position to the syndrome and turns the overall parity. -/

namespace Sys2Proof.Machine

/-! ## Additive folds -/

/-- Folding chosen numbers by exclusive or adds over the choices. -/
theorem foldl_xor_add {α : Type} (p q : α → Bool) (v : α → Nat) (l : List α) (a b : Nat) :
    l.foldl (fun c x => if (p x ^^ q x) then c ^^^ v x else c) (a ^^^ b)
      = l.foldl (fun c x => if p x then c ^^^ v x else c) a ^^^ l.foldl (fun c x => if q x then c ^^^ v x else c) b := by
  induction l generalizing a b with
  | nil => rfl
  | cons x l ih =>
    simp only [List.foldl_cons]
    rw [← ih]
    congr 1
    have twice : a ^^^ v x ^^^ (b ^^^ v x) = a ^^^ b := by
      rw [Nat.xor_assoc, Nat.xor_comm (v x), Nat.xor_assoc b, Nat.xor_self, Nat.xor_zero]
    cases p x <;> cases q x
    · rfl
    · exact Nat.xor_assoc _ _ _
    · show a ^^^ b ^^^ v x = a ^^^ v x ^^^ b
      rw [Nat.xor_assoc, Nat.xor_comm b, ← Nat.xor_assoc]
    · exact twice.symm

theorem positionSum_xor (h e : BitVec 32) : positionSum (h ^^^ e) = positionSum h ^^^ positionSum e := by
  have sum := foldl_xor_add (fun q : Nat × Nat => h.getLsbD q.2) (fun q => e.getLsbD q.2) Prod.fst
    headerPositions.zipIdx 0 0
  simpa only [positionSum, BitVec.getLsbD_xor, Nat.xor_self] using sum

theorem oddOnes_xor (n x y : Nat) : oddOnes n (x ^^^ y) = (oddOnes n x ^^ oddOnes n y) := by
  have fold : ∀ (l : List Nat) (a b : Bool), l.foldl (fun c i => c ^^ (x ^^^ y).testBit i) (a ^^ b)
      = (l.foldl (fun c i => c ^^ x.testBit i) a ^^ l.foldl (fun c i => c ^^ y.testBit i) b) := by
    intro l
    induction l with
    | nil => exact fun _ _ => rfl
    | cons i l ih =>
      intro a b
      simp only [List.foldl_cons]
      rw [← ih, Nat.testBit_xor]
      congr 1
      cases a <;> cases b <;> cases x.testBit i <;> cases y.testBit i <;> rfl
  exact fold (List.range n) false false

/-! ## The syndrome of a codeword -/

/-- The position a check points to: 0 when every check bit is right (R6). -/
def Codeword.syndrome (w : Codeword) : Nat := positionSum w.header ^^^ (w.hec.toNat % 64)

/-- Whether P disagrees (R6). -/
def Codeword.disagrees (w : Codeword) : Bool := oddOnes 32 w.header.toNat ^^ oddOnes 7 w.hec.toNat

namespace Codeword

variable {w : Codeword}

theorem syndrome_xor_hec (w : Codeword) (y : Byte) :
    syndrome { w with hec := w.hec ^^^ y } = w.syndrome ^^^ (y.toNat % 64) := by
  have low : (w.hec ^^^ y).toNat % 64 = (w.hec.toNat % 64) ^^^ (y.toNat % 64) := by
    rw [BitVec.toNat_xor]
    exact Nat.xor_mod_two_pow (n := 6)
  rw [syndrome, low, ← Nat.xor_assoc]
  rfl

theorem disagrees_xor_hec (w : Codeword) (y : Byte) :
    disagrees { w with hec := w.hec ^^^ y } = (w.disagrees ^^ oddOnes 7 y.toNat) := by
  rw [disagrees, BitVec.toNat_xor, oddOnes_xor, ← Bool.xor_assoc]
  rfl

theorem syndrome_xor_header (w : Codeword) (e : BitVec 32) :
    syndrome { w with header := w.header ^^^ e } = w.syndrome ^^^ positionSum e := by
  rw [syndrome, positionSum_xor, Nat.xor_assoc, Nat.xor_comm (positionSum e), ← Nat.xor_assoc]
  rfl

theorem disagrees_xor_header (w : Codeword) (e : BitVec 32) :
    disagrees { w with header := w.header ^^^ e } = (w.disagrees ^^ oddOnes 32 e.toNat) := by
  rw [disagrees, BitVec.toNat_xor, oddOnes_xor, Bool.xor_assoc, Bool.xor_comm (oddOnes 32 e.toNat), ← Bool.xor_assoc]
  rfl

/-- A codeword position is a check bit of the HEC byte or a header bit (R5). -/
theorem position_cases {p : Nat} (low : 1 ≤ p) (high : p ≤ 38) :
    (∃ i < 6, checkIndex? p = some i ∧ headerPositions.findIdx? (fun q => q == p) = none
        ∧ (BitVec.twoPow 8 i).toNat % 64 = p ∧ oddOnes 7 (BitVec.twoPow 8 i).toNat = true)
    ∨ (∃ i < 32, checkIndex? p = none ∧ headerPositions.findIdx? (fun q => q == p) = some i
        ∧ positionSum (BitVec.twoPow 32 i) = p ∧ oddOnes 32 (BitVec.twoPow 32 i).toNat = true) := by
  revert p
  decide +kernel

/-- A wrong bit at a position adds that position to the syndrome and turns the overall parity. -/
theorem invert_syndrome {p : Nat} (low : 1 ≤ p) (high : p ≤ 38) :
    (w.invert p).syndrome = w.syndrome ^^^ p ∧ (w.invert p).disagrees = !w.disagrees
      ∧ invertPosition (w.invert p).header p = w.header := by
  obtain ⟨i, -, check, header, place, odd⟩ | ⟨i, -, check, header, place, odd⟩ := position_cases low high
  · have inverted : w.invert p = { w with hec := w.hec ^^^ BitVec.twoPow 8 i } := by rw [invert, check]
    rw [inverted, syndrome_xor_hec, disagrees_xor_hec, place, odd, Bool.xor_true]
    exact ⟨rfl, rfl, by rw [invertPosition, header]⟩
  · have inverted : w.invert p = { w with header := w.header ^^^ BitVec.twoPow 32 i } := by
      rw [invert, check, invertPosition, header]
    rw [inverted, syndrome_xor_header, disagrees_xor_header, place, odd, Bool.xor_true]
    refine ⟨rfl, rfl, ?_⟩
    rw [invertPosition, header]
    dsimp only
    rw [BitVec.xor_assoc, BitVec.xor_self, BitVec.xor_zero]

/-! ## The check -/

theorem headerBits_extract (h : BitVec 32) :
    headerBits (h.extractLsb' 0 8) (h.extractLsb' 8 8) (h.extractLsb' 16 8) (h.extractLsb' 24 8) = h := by
  refine BitVec.eq_of_getLsbD_eq fun i hi => ?_
  obtain ⟨k, j, hk, hj, rfl⟩ : ∃ k j, k < 4 ∧ j < 8 ∧ i = 8 * k + j := ⟨i / 8, i % 8, by omega, by omega, by omega⟩
  rw [getLsbD_headerBits _ _ _ _ hk hj]
  interval_cases k <;> simp [hj]

theorem headerOf_headerBits (dest src kind len : Byte) (c : Bool) :
    headerOf (headerBits dest src kind len) c = { dest := dest, src := src, kind := kind, len := len, corrected := c } := by
  have octet : ∀ k < 4, (headerBits dest src kind len).extractLsb' (8 * k) 8 = [dest, src, kind, len].getD k 0#8 := by
    intro k hk
    refine BitVec.eq_of_getLsbD_eq fun j hj => ?_
    rw [BitVec.getLsbD_extractLsb', getLsbD_headerBits _ _ _ _ hk hj]
    simp [hj]
  have d := octet 0 (by decide)
  have s := octet 1 (by decide)
  have k := octet 2 (by decide)
  have l := octet 3 (by decide)
  exact GoodHeader.mk.injEq _ _ _ _ _ _ _ _ _ _ |>.mpr ⟨d, s, k, l, rfl⟩

/-- The header check in terms of the syndrome (R6). -/
theorem check_eq (w : Codeword) : w.check =
    (if w.syndrome = 0 then some (headerOf w.header w.disagrees)
      else if (w.disagrees && decide (w.syndrome ≤ 38)) = true
        then some (headerOf (invertPosition w.header w.syndrome) true) else none).filter
      (fun g => decide (g.len.toNat ≤ 120)) := by
  unfold check checkHeader
  rw [headerBits_extract]
  simp only [beq_iff_eq]
  rfl

/-- A syndrome of 0 takes the header as it stands (R6). -/
theorem check_of_zero {g : GoodHeader} (zero : w.syndrome = 0) (header : headerOf w.header w.disagrees = g)
    (len : g.len.toNat ≤ 120) : w.check = some g := by
  rw [check_eq, if_pos zero, header]
  simp [Option.filter, len]

/-- A syndrome within the codeword, with P disagreeing, corrects its position (R6). -/
theorem check_of_single {g : GoodHeader} (one : w.syndrome ≠ 0) (inside : w.syndrome ≤ 38) (odd : w.disagrees = true)
    (header : headerOf (invertPosition w.header w.syndrome) true = g) (len : g.len.toNat ≤ 120) : w.check = some g := by
  rw [check_eq, if_neg one, odd, if_pos (by simp [inside]), header]
  simp [Option.filter, len]

/-- A syndrome other than 0 with P agreeing discards the frame (R6). -/
theorem check_of_double (two : w.syndrome ≠ 0) (even : w.disagrees = false) : w.check = none := by
  rw [check_eq, if_neg two, even]
  rfl

/-- A sent codeword has no wrong bit (R5). -/
theorem sent_right (dest src kind len : Byte) :
    (sent dest src kind len).syndrome = 0 ∧ (sent dest src kind len).disagrees = false := by
  have bits : ∀ i < 6, (hecByte dest src kind len).toNat.testBit i
      = (positionSum (headerBits dest src kind len)).testBit i := fun i hi => by
    rw [BitVec.testBit_toNat, getLsbD_hecByte, if_pos hi]
  have check : (hecByte dest src kind len).toNat % 64 = positionSum (headerBits dest src kind len) := by
    refine Nat.eq_of_testBit_eq fun i => ?_
    rw [show 64 = 2 ^ 6 from rfl, Nat.testBit_mod_two_pow]
    by_cases hi : i < 6
    · simpa [hi] using bits i hi
    · have high : (2 : Nat) ^ 6 ≤ 2 ^ i := Nat.pow_le_pow_right (by decide) (by omega)
      rw [decide_eq_false hi, Bool.false_and]
      exact (Nat.testBit_lt_two_pow ((positionSum_lt _).trans_le high)).symm
  have six : oddOnes 6 (hecByte dest src kind len).toNat = oddOnes 6 (positionSum (headerBits dest src kind len)) := by
    rw [oddOnes_eq, oddOnes_eq, List.countP_congr fun i hi => by rw [bits i (List.mem_range.1 hi)]]
  have seven : ∀ x, oddOnes 7 x = (oddOnes 6 x ^^ x.testBit 6) := fun _ => rfl
  refine ⟨?_, ?_⟩
  · show positionSum _ ^^^ (hecByte dest src kind len).toNat % 64 = 0
    rw [check]
    exact Nat.xor_self _
  · show (oddOnes 32 _ ^^ oddOnes 7 (hecByte dest src kind len).toNat) = false
    rw [seven, six, BitVec.testBit_toNat, getLsbD_hecByte]
    show (oddOnes 32 (headerBits dest src kind len).toNat ^^ _) = false
    cases oddOnes 32 (headerBits dest src kind len).toNat <;>
      cases oddOnes 6 (positionSum (headerBits dest src kind len)) <;> rfl

end Codeword

/-- Settles O12: no wrong bit, bit 7, P, one position, and two. -/
theorem headerCheckCorrectsOneDetectsTwo : Obligations.HeaderCheckCorrectsOneDetectsTwo := by
  intro dest src kind len short w good p64
  obtain ⟨zero, even⟩ := Codeword.sent_right dest src kind len
  have header : ∀ c, headerOf w.header c = { dest := dest, src := src, kind := kind, len := len, corrected := c } :=
    Codeword.headerOf_headerBits dest src kind len
  have p64_syndrome : ∀ v : Codeword, (p64 v).syndrome = v.syndrome := fun v => by
    rw [Codeword.syndrome_xor_hec]; exact Nat.xor_zero _
  have p64_disagrees : ∀ v : Codeword, (p64 v).disagrees = !v.disagrees := fun v => by
    rw [Codeword.disagrees_xor_hec, show oddOnes 7 (64#8 : Byte).toNat = true by decide, Bool.xor_true]
  have inverted := fun p (low : 1 ≤ p) (high : p ≤ 38) => Codeword.invert_syndrome (w := w) low high
  refine ⟨Codeword.check_of_zero zero (by rw [even]; exact header _) short, ?_, ?_, fun p low high => ⟨?_, ?_⟩,
    fun p q low less high => ?_⟩
  · refine Codeword.check_of_zero ?_ (g := ⟨dest, src, kind, len, false⟩) ?_ short
    · rw [Codeword.syndrome_xor_hec, zero]; rfl
    · rw [Codeword.disagrees_xor_hec, even]; exact header _
  · refine Codeword.check_of_zero (by rw [p64_syndrome, zero]) ?_ short
    rw [p64_disagrees, even]; exact header _
  · obtain ⟨place, odd, back⟩ := inverted p low high
    have at_p : (w.invert p).syndrome = p := by rw [place, zero, Nat.zero_xor]
    exact Codeword.check_of_single (by rw [at_p]; omega) (by rw [at_p]; exact high) (by rw [odd, even]; rfl)
      (by rw [at_p, back]; exact header _) short
  · obtain ⟨place, odd, -⟩ := inverted p low high
    refine Codeword.check_of_double ?_ ?_
    · rw [p64_syndrome, place, zero, Nat.zero_xor]; omega
    · rw [p64_disagrees, odd, even]; rfl
  · obtain ⟨place, odd, -⟩ := inverted p low (by omega)
    obtain ⟨place', odd', -⟩ := Codeword.invert_syndrome (w := w.invert p) (p := q) (by omega) high
    refine Codeword.check_of_double ?_ ?_
    · rw [place', place, zero, Nat.zero_xor]
      exact fun same => absurd (Nat.xor_eq_zero_iff.1 same) (by omega)
    · rw [odd', odd, even]; rfl

end Sys2Proof.Machine
end

section
/-! PROOFS. A frame on the wire (R2, R3, R6, R7): the bytes as composed, taken one by one on Port U, are the frame. -/

namespace Sys2Proof.Machine

/-! ## A run of bytes on Port U -/

/-- A receiver in reception at a moment, with bytes gathered and no escape pending. -/
def Receiver.midway (p : RxPhase) (g : List Byte) (now : Nat) : Receiver :=
  { phase := p, escPending := false, gathered := g, gapFrom := now }

theorem execAll_cons_next {c : Instr} {cs : List Instr} {s t : State} (h : exec c s = .next t) :
    execAll (c :: cs) s = execAll cs t := by
  simp only [execAll, h]

theorem execAll_singleton (c : Instr) (s : State) : execAll [c] s = exec c s := by
  unfold execAll
  cases exec c s <;> rfl

/-- Bytes received on Port U one by one, and what comes behind them. -/
def State.received (s : State) (bs : List Byte) (rest : List Instr) : Host.Outcome State Fault Refusal :=
  execAll (bs.map (Instr.receiveByte .u) ++ rest) s

section run

variable {s : State} {p : RxPhase} {g : List Byte} {rest : List Instr}

/-- A byte as composed is, to a receiver in reception, one byte that it reads as it, perhaps after an ESC (R2, R3). -/
theorem received_escape (receiving : p ≠ .hunt) (b : Byte) (rest : List Instr) :
    ∃ e c, Receiver.reads { Receiver.midway p g s.now with escPending := e } c b
      ∧ (s.withRxU (Receiver.midway p g s.now)).received (escape b) rest
        = (s.withRxU { Receiver.midway p g s.now with escPending := e }).received [c] rest := by
  by_cases special : b = 0xB6#8 ∨ b = 0xB7#8 ∨ b = 0xB8#8
  · have escaped : escape b = [0xB7#8, b ^^^ 0x20#8] := by
      unfold escape
      rw [if_pos (by simpa [Config.startByte, Config.escByte, Config.idleByte, or_assoc] using special)]
      rfl
    refine ⟨true, b ^^^ 0x20#8, .inr ⟨rfl, ?_, ?_⟩, ?_⟩
    · obtain rfl | rfl | rfl := special <;> decide
    · rw [BitVec.xor_assoc, BitVec.xor_self, BitVec.xor_zero]
    · rw [escaped]
      refine execAll_cons_next ?_
      exact congrArg Host.Outcome.next (byteU_of_quiet (Receiver.take_esc s.now receiving rfl))
  · have plain : escape b = [b] := by
      unfold escape
      rw [if_neg (by simpa [Config.startByte, Config.escByte, Config.idleByte, or_assoc] using special)]
    simp only [not_or] at special
    exact ⟨false, b, .inl ⟨rfl, special.1, special.2.1, special.2.2, rfl⟩, by rw [plain]; rfl⟩

/-- A byte of a frame that goes on is gathered. -/
theorem received_gathers (on : (Receiver.midway p g s.now).goesOn) (b : Byte) (rest : List Instr) :
    (s.withRxU (Receiver.midway p g s.now)).received (escape b) rest
      = (s.withRxU (Receiver.midway p (g ++ [b]) s.now)).received [] rest := by
  obtain ⟨e, c, reads, run⟩ := received_escape (s := s) (p := p) (g := g) on.receiving b rest
  rw [run]
  refine execAll_cons_next ?_
  exact congrArg Host.Outcome.next (byteU_of_quiet (Receiver.take_gathers s.now on reads))

/-- The bytes of a frame that goes on with all of them but the last are gathered. -/
theorem received_gathersAll (bs : List Byte) (rest : List Instr)
    (on : ∀ n < bs.length, (Receiver.midway p (g ++ bs.take n) s.now).goesOn) :
    (s.withRxU (Receiver.midway p g s.now)).received (bs.flatMap escape) rest
      = (s.withRxU (Receiver.midway p (g ++ bs) s.now)).received [] rest := by
  induction bs generalizing g with
  | nil => rw [List.append_nil]; rfl
  | cons b bs ih =>
    have first : (Receiver.midway p g s.now).goesOn := by simpa using on 0 (by simp)
    have split : (s.withRxU (Receiver.midway p g s.now)).received ((b :: bs).flatMap escape) rest
        = (s.withRxU (Receiver.midway p g s.now)).received (escape b)
          ((bs.flatMap escape).map (Instr.receiveByte .u) ++ rest) := by
      simp [State.received]
    rw [split, received_gathers first]
    have tail := ih (g := g ++ [b]) fun n hn => by
      simpa [List.append_assoc] using on (n + 1) (by simpa using hn)
    rw [List.append_assoc] at tail
    exact tail

/-- Bytes in two parts. -/
theorem received_append (s : State) (as bs : List Byte) (rest : List Instr) :
    s.received (as ++ bs) rest = s.received as (bs.map (Instr.receiveByte .u) ++ rest) := by
  simp [State.received]

/-- The HEC byte of a good header begins the body (R6). -/
theorem received_header {b0 b1 b2 b3 : Byte} {h : GoodHeader} (b : Byte)
    (good : checkHeader b0 b1 b2 b3 b = some h) (right : h.corrected = false) (rest : List Instr) :
    (s.withRxU (Receiver.midway .header [b0, b1, b2, b3] s.now)).received (escape b) rest
      = (s.withRxU (Receiver.midway (.body h.dest h.src h.kind h.len) [] s.now)).received [] rest := by
  obtain ⟨e, c, reads, run⟩ := received_escape (s := s) (p := .header) (g := [b0, b1, b2, b3]) nofun b rest
  rw [run]
  refine execAll_cons_next ?_
  have taken := byteU_of_header (s := s.withRxU { Receiver.midway .header [b0, b1, b2, b3] s.now with escPending := e })
    (Receiver.take_header s.now rfl rfl reads good)
  rw [right] at taken
  exact congrArg Host.Outcome.next taken

/-- The last byte of a frame completes it and routes it (R7, log 1). -/
theorem received_completes {f : Frame} {len b : Byte} (all : g.length = len.toNat + 1)
    (payload : f.payload = g.take len.toNat) (check : crcBytes f.payload = (g ++ [b]).drop len.toNat) :
    (s.withRxU (Receiver.midway (.body f.dest f.src f.kind len) g s.now)).received (escape b) []
      = exec (.forwardDownstream f) ((s.withRxU (Receiver.midway .hunt [] s.now)).counted .uFramesOk) := by
  obtain ⟨e, c, reads, run⟩ := received_escape (s := s) (p := .body f.dest f.src f.kind len) (g := g) nofun b []
  rw [run]
  refine (execAll_singleton _ _).trans ?_
  exact congrArg Host.Outcome.next (byteU_of_completes ⟨b, len, rfl, all, reads, payload, check⟩)

end run

theorem checkHeader_sent (dest src kind len : Byte) (short : len.toNat ≤ 120) :
    checkHeader dest src kind len (hecByte dest src kind len) = some ⟨dest, src, kind, len, false⟩ := by
  have sent := (headerCheckCorrectsOneDetectsTwo dest src kind len short).1
  have fields := Codeword.headerOf_headerBits dest src kind len false
  simp only [headerOf, GoodHeader.mk.injEq] at fields
  obtain ⟨d, s, k, l, -⟩ := fields
  simpa only [Codeword.check, Codeword.sent, d, s, k, l] using sent

/-- Settles O10: the START, four header bytes and the HEC byte, the payload with its check but for the last byte, and
the last byte, which completes the frame. -/
theorem wireBytesAreTheFrame : Obligations.WireBytesAreTheFrame := by
  intro f s short hunting
  have length : (frameLen f).toNat = f.payload.length := by
    unfold frameLen
    rw [BitVec.toNat_ofNat]
    omega
  let header := [f.dest, f.src, f.kind, frameLen f]
  let hec := hecByte f.dest f.src f.kind (frameLen f)
  let body := f.payload ++ [(crcOf f.payload).extractLsb' 8 8]
  let last : Byte := (crcOf f.payload).extractLsb' 0 8
  have parts : wire f = 0xB6#8 :: (header.flatMap escape ++ (escape hec ++ (body.flatMap escape ++ escape last))) := by
    simp [wire, frameBody, crcBytes, header, hec, body, last, Config.startByte, List.flatMap_append]
  have begun : exec (.receiveByte .u 0xB6#8) s = .next (s.withRxU (Receiver.midway .header [] s.now)) := by
    refine congrArg Host.Outcome.next (byteU_of_begun ?_)
    rw [Receiver.take_hunt hunting]
    rfl
  have headerOn : ∀ n < header.length, (Receiver.midway .header ([] ++ header.take n) s.now).goesOn := fun n hn => by
    refine .inl ⟨rfl, ?_⟩
    rw [List.nil_append]
    exact (List.length_take_le n header).trans_lt hn
  have bodyOn : ∀ n < body.length,
      (Receiver.midway (.body f.dest f.src f.kind (frameLen f)) ([] ++ body.take n) s.now).goesOn := fun n hn => by
    refine .inr ⟨_, _, _, _, rfl, ?_⟩
    rw [List.nil_append, length]
    have whole : body.length = f.payload.length + 1 := by simp [body]
    exact (List.length_take_le n body).trans_lt (hn.trans_eq whole)
  have checked := checkHeader_sent f.dest f.src f.kind (frameLen f) (by omega)
  have bodyBegins : ∀ rest, (s.withRxU (Receiver.midway .header header s.now)).received (escape hec) rest
      = (s.withRxU (Receiver.midway (.body f.dest f.src f.kind (frameLen f)) [] s.now)).received [] rest :=
    received_header hec checked rfl
  calc execAll ((wire f).map (Instr.receiveByte .u)) s
      = (s.withRxU (Receiver.midway .header [] s.now)).received
          (header.flatMap escape ++ (escape hec ++ (body.flatMap escape ++ escape last))) [] := by
        rw [parts, List.map_cons, execAll_cons_next begun]
        exact congrArg (execAll · _) (List.append_nil _).symm
    _ = (s.withRxU (Receiver.midway .header header s.now)).received
          (escape hec ++ (body.flatMap escape ++ escape last)) [] := by
        rw [received_append, received_gathersAll header _ headerOn, ← received_append, List.nil_append, List.nil_append]
    _ = (s.withRxU (Receiver.midway (.body f.dest f.src f.kind (frameLen f)) [] s.now)).received
          (body.flatMap escape ++ escape last) [] := by
        rw [received_append, bodyBegins, ← received_append, List.nil_append]
    _ = (s.withRxU (Receiver.midway (.body f.dest f.src f.kind (frameLen f)) body s.now)).received (escape last) [] := by
        rw [received_append, received_gathersAll body _ bodyOn, ← received_append, List.nil_append, List.nil_append]
    _ = exec (.forwardDownstream f) ((s.withRxU (Receiver.midway .hunt [] s.now)).counted .uFramesOk) := by
        refine received_completes ?_ ?_ ?_
        · simp [body, length]
        · simp [body, length]
        · simp [body, length, last, crcBytes]

end Sys2Proof.Machine
end

section
/-! PROOFS. The Cycle Master's exchanges (Chapter 8): a cycle start falling due (R145 to R147), and what follows the end
of a frame on Port D (R14, R148, R158). -/

namespace Sys2Proof.Machine

/-! ## A cycle start falls due (R145) -/

section startDue

variable {s : State} {due : Nat}

theorem startDue_of_other (h : s.cycle.nextDue ≠ some due) : startDue due s = s :=
  if_neg (by simpa using h)

/-- With no exchange in progress the start is taken at once. -/
theorem startDue_of_quiet (next : s.cycle.nextDue = some due)
    (quiet : s.cycle.phase = .window .idle ∨ s.cycle.phase = .window .closed) :
    startDue due s = startCycle (s.reach due) := by
  unfold startDue
  rw [if_pos (by simpa using next)]
  dsimp only [State.reach]
  obtain quiet | quiet := quiet <;> rw [quiet]

/-- In an exchange the start is deferred. -/
theorem startDue_of_exchange (next : s.cycle.nextDue = some due) (running : s.cycle.phase ≠ .halted)
    (notIdle : s.cycle.phase ≠ .window .idle) (notClosed : s.cycle.phase ≠ .window .closed) :
    startDue due s = { s with now := max s.now due, cycle := { s.cycle with deferred := true } } := by
  unfold startDue
  rw [if_pos (by simpa using next)]
  dsimp only [State.reach]
  split
  · next h => exact absurd h notIdle
  · next h => exact absurd h notClosed
  · next h => exact absurd h running
  · rfl

end startDue

/-- Settles O55: the start taken, deferred, or superseded. -/
theorem cycleStartComposesAndSyncs : Obligations.CycleStartComposesAndSyncs := by
  intro s l due later
  refine ⟨fun line next quiet free => ?_, fun next running notIdle notClosed => ?_, fun other => ?_⟩
  · exact congrArg Host.Outcome.next
      ((startDue_of_quiet next quiet).trans (startCycle_eq_started (by exact line) (by exact free)))
  · exact congrArg Host.Outcome.next (startDue_of_exchange next running notIdle notClosed)
  · exact congrArg Host.Outcome.next (startDue_of_other other)

/-! ## The end of a frame on Port D (R14) -/

section frameEnd

variable {s : State} {l : Line}

/-- The state at the end of a frame on the wire: the clock at that end, the line released. -/
def State.releasedAt (s : State) (moment : Nat) : State :=
  { s with now := max s.now moment, portD := { s.portD with tx := none } }

theorem endFrameD_of_free (h : s.portD.tx = none) : endFrameD s = s := by
  unfold endFrameD
  rw [h]

theorem endFrameD_of_alone {x : Sending} (h : s.portD.tx = some x) (alone : s.portD.waiting = []) :
    endFrameD s = frameEnded (s.releasedAt x.endsAt) := by
  unfold endFrameD
  rw [h]
  dsimp only [State.reach]
  unfold State.releasedAt
  split
  · rfl
  · next waiting => cases alone.symm.trans waiting

theorem endFrameD_of_waiting {x : Sending} {f : Frame} {more : List Frame} (h : s.portD.tx = some x)
    (waiting : s.portD.waiting = f :: more) :
    endFrameD s = driveD f
      { s with now := max s.now x.endsAt, portD := { s.portD with tx := none, waiting := more } } := by
  unfold endFrameD
  rw [h]
  dsimp only [State.reach]
  rw [waiting]

theorem frameEnded_of_cut (h : s.cycle.cutPending = true) : frameEnded s = startCycle s := if_pos h

/-- What the Cycle Master does without a cut waiting, by the phase (R147, R148, R158). -/
theorem frameEnded_of_sync (h : s.cycle.cutPending = false) (line : s.mode.line = some l) (phase : s.cycle.phase = .sync) :
    frameEnded s = sendSetpoint l .one s := by
  unfold frameEnded
  rw [if_neg (by simp [h]), line, phase]

theorem frameEnded_of_setpoint {k : Station} (h : s.cycle.cutPending = false) (line : s.mode.line = some l)
    (phase : s.cycle.phase = .setpoint k) :
    frameEnded s = beginWait { s with cycle := { s.cycle with phase := .report k } } := by
  unfold frameEnded
  rw [if_neg (by simp [h]), line, phase]

theorem frameEnded_of_sending {awaited : Bool} {dest : Byte} (h : s.cycle.cutPending = false)
    (line : s.mode.line = some l) (phase : s.cycle.phase = .window (.sending awaited dest)) :
    frameEnded s = if awaited = true then beginWait (s.forwarding (.replyWait dest)) else nextHead l s := by
  unfold frameEnded
  rw [if_neg (by simp [h]), line, phase]

/-- The frame handed over after CYCLE_SYNC: the ARM_SETPOINT of a node, with the commands composed for it (R148). -/
theorem sendSetpoint_eq_drives {cs : Pair (List ArmCommand)} (free : s.portD.tx = none) (k : Station)
    (composed : s.cycle.composed = some cs) :
    sendSetpoint l k s = State.drives { s with cycle := { s.cycle with phase := .setpoint k } }
      (Frame.mk (nodeAddr l k) s.switch.ownAddr 0x31#8 (setpointPayload s.cycle.number (cs.get k))) s.now := by
  have frame : setpointFrame s l k
      = Frame.mk (nodeAddr l k) s.switch.ownAddr 0x31#8 (setpointPayload s.cycle.number (cs.get k)) := by
    simp only [setpointFrame, composed]
  rw [sendSetpoint, driveD_eq_drives (by exact free), frame]

end frameEnd

/-- No head fits in no time: every frame has bytes on the wire (R2, R156). -/
theorem headNeed_pos (l : Line) (e : DownEntry) : 0 < headNeed l e := by
  have bytes : 0 < (wire e.frame).length := by simp [wire]
  simp only [headNeed, wireTime, Config.byteTime]
  omega

/-- Settles O21: the end of the frame by the phase, a cut or another frame before it. -/
theorem portDFrameEndGoesOn : Obligations.PortDFrameEndGoesOn := by
  intro s x l k dest cs e rest due next more later released phase waits setpoint need free ends unanswered head
  have ended : s.portD.tx = some x → s.portD.waiting = [] → ∀ {t}, frameEnded released = t →
      exec .portDFrameEnd s = .next t := fun wire alone _ h =>
    congrArg Host.Outcome.next ((endFrameD_of_alone wire alone).trans h)
  have follows : unanswered → released.NextHead l (fun t => exec .portDFrameEnd s = .next t) := fun un => by
    obtain ⟨⟨⟨wire, alone, line⟩, uncut⟩, sending⟩ := un
    have goes : frameEnded released = nextHead l released :=
      frameEnded_of_sending (s := released) uncut line sending
    rw [answers_next (ended wire alone goes)]
    exact nextHead_follows line rfl
  have taken : ∀ {t u}, t = u → exec .portDFrameEnd s = .next t → exec .portDFrameEnd s = .next u := fun same h =>
    h.trans (congrArg Host.Outcome.next same)
  refine ⟨fun wire => ?_, fun ⟨⟨wire, alone, line⟩, uncut⟩ sync composed => ?_,
    fun ⟨⟨wire, alone, line⟩, uncut⟩ node => ?_, fun ⟨⟨wire, alone, line⟩, uncut⟩ sending => ?_,
    fun un empty undeferred => ?_, fun un ⟨queued, next, undeferred⟩ fits => ?_,
    fun un ⟨queued, next, undeferred⟩ late => ?_, fun un deferred next past => ?_,
    fun ⟨wire, alone, line⟩ cut => ?_, fun wire waiting => ?_⟩
  · exact congrArg Host.Outcome.next (endFrameD_of_free wire)
  · exact ended wire alone ((frameEnded_of_sync (s := released) uncut line sync).trans
      (sendSetpoint_eq_drives (s := released) rfl .one composed))
  · exact ended wire alone (frameEnded_of_setpoint (s := released) uncut line node)
  · exact ended wire alone (frameEnded_of_sending (s := released) uncut line sending)
  · exact taken (if_neg (by simpa [released] using undeferred)) ((follows un e rest due).1 empty)
  · exact ((follows un e rest due).2 queued next).1 fits
  · exact taken (if_neg (by simpa [released] using undeferred)) (((follows un e rest due).2 queued next).2 late)
  · cases queued : s.switch.down with
    | nil => exact taken (if_pos deferred) ((follows un e rest due).1 queued)
    | cons e rest =>
      have late : due - later < headNeed l e := by
        have := headNeed_pos l e
        omega
      exact taken (if_pos deferred) (((follows un e rest due).2 queued next).2 late)
  · exact ended wire alone ((frameEnded_of_cut (s := released) cut).trans (startCycle_eq_started (by exact line) rfl))
  · exact congrArg Host.Outcome.next ((endFrameD_of_waiting wire waiting).trans (driveD_eq_drives rfl))

end Sys2Proof.Machine
end

section
/-! PROOFS. Report waits (R148 to R154): what each command makes of a wait, what a missing report leaves, and the two
claims about missing reports. -/

namespace Sys2Proof.Machine

/-! ## A report wait, command by command -/

section reportWait

variable {s : State} {l : Line} {w : Wait} {k : Station}

theorem goodFrameD_of_report (line : s.mode.line = some l) (wait : s.cycle.wait = some w)
    (phase : s.cycle.phase = .report k) (f : Frame) : goodFrameD f s = judgeReport l k f s := by
  unfold goodFrameD
  rw [line, wait, phase]

theorem badFrameD_of_report (line : s.mode.line = some l) (wait : s.cycle.wait = some w)
    (phase : s.cycle.phase = .report k) : badFrameD s = reportMissing l k s := by
  unfold badFrameD
  rw [line, wait, phase]

theorem reportTimeoutRuns_of_unbegun (line : s.mode.line = some l) (wait : s.cycle.wait = some w)
    (phase : s.cycle.phase = .report k) (unbegun : w.begun = false) :
    reportTimeoutRuns s = reportMissing l k (s.reach (w.released + l.record.reportTimeout)) := by
  unfold reportTimeoutRuns
  rw [line, wait, phase]
  exact if_neg (by simp [unbegun])

theorem reportLimitReached_of_begun (line : s.mode.line = some l) (wait : s.cycle.wait = some w)
    (phase : s.cycle.phase = .report k) (begun : w.begun = true) :
    reportLimitReached s = reportMissing l k (s.reach (w.released + l.record.reportTimeout + 250)) := by
  unfold reportLimitReached
  rw [line, wait, phase]
  exact if_pos begun

/-- A good frame that is no ARM_REPORT from the node to the own address (R151). -/
theorem judgeReport_of_foreign {f : Frame}
    (foreign : f.kind ≠ 0x32#8 ∨ f.src ≠ nodeAddr l k ∨ f.dest ≠ s.switch.ownAddr) :
    judgeReport l k f s = reportMissing l k (s.bump .unsolicited) :=
  if_pos (by simpa [or_assoc] using foreign)

theorem judgeReport_of_report (p : List Byte) :
    judgeReport l k (Frame.mk s.switch.ownAddr (nodeAddr l k) 0x32#8 p) s
      = if reportContents s p = true then goodReport l k p s else reportMissing l k s :=
  if_neg (by simp)

/-- No position has the code 3 (section 10.4). -/
theorem armPos?_of_three {n : Nat} (h : n % 4 = 3) : armPos? (n % 4) = none := by rw [h]; rfl

/-- Contents that miss one of R151's points. -/
theorem reportContents_of_wrong {p : List Byte}
    (wrong : p.length ≠ 17 ∨ rd16 p 0 ≠ s.cycle.number ∨ ∃ i, i < 5 ∧ rd8 p (4 + 3 * i) % 4 = 3) :
    ¬ reportContents s p = true := by
  intro right
  simp only [reportContents, Bool.and_eq_true, beq_iff_eq, List.all_eq_true] at right
  obtain ⟨⟨len, positions⟩, number⟩ := right
  obtain wrong | wrong | ⟨i, hi, code⟩ := wrong
  · exact wrong len
  · exact wrong number
  · have placed := positions (reportEntry p i) (List.mem_map.2 ⟨i, List.mem_range.2 hi, rfl⟩)
    simp only [reportEntry, armPos?_of_three code] at placed
    exact Bool.false_ne_true placed

end reportWait

/-! ## What the Cycle Master keeps where it goes on after a report wait -/

/-- The wait is over and the cycle goes on: no further node is judged, and of the counters only those of Port D and of
the service window move. -/
structure ReportOver (s t : State) : Prop where
  wait : t.cycle.wait = none
  phase : ∀ k, t.cycle.phase ≠ .report k
  nodes : t.cycle.nodes = s.cycle.nodes
  counters : ∀ j, j ≠ .framesAborted → j ≠ .serviceDiscarded →
    t.requests.counters.get j = s.requests.counters.get j

namespace ReportOver

variable {s u : State}

theorem abort (h : ReportOver s u) : ReportOver s (abortReception u) := by
  unfold abortReception
  split
  · exact ⟨h.wait, h.phase, h.nodes, fun j ha hd => (Counters.get_bump_other _ ha).trans (h.counters j ha hd)⟩
  · exact h

theorem drive (h : ReportOver s u) (f : Frame) : ReportOver s (driveD f u) := by
  unfold driveD
  split
  · exact ⟨h.wait, h.phase, h.nodes, h.counters⟩
  · exact ⟨h.abort.wait, h.abort.phase, h.abort.nodes, h.abort.counters⟩

theorem start (h : ReportOver s u) : ReportOver s (startCycle u) := by
  unfold startCycle
  split
  · exact h
  · refine ReportOver.drive ?_ _
    exact ⟨rfl, fun _ => nofun, h.nodes, h.counters⟩

theorem takeDeferred (h : ReportOver s u) : ReportOver s (takeDeferred u) := by
  unfold Machine.takeDeferred
  split
  · split
    · exact h.start
    · exact h
  · split
    · exact h.start
    · exact h
  · exact h

theorem sendHead (wait : u.cycle.wait = none) (e : DownEntry) (rest : List DownEntry) :
    ReportOver u (sendHead e rest u) := by
  refine ReportOver.drive ?_ _
  exact ⟨wait, fun _ => nofun, rfl, fun _ _ _ => rfl⟩

theorem trans {t : State} (h : ReportOver s t) (g : ReportOver t u) : ReportOver s u :=
  ⟨g.wait, g.phase, g.nodes.trans h.nodes, fun j ha hd => (g.counters j ha hd).trans (h.counters j ha hd)⟩

theorem openExamine (l : Line) (wait : u.cycle.wait = none) : ReportOver u (openExamine l u) := by
  have window : ∀ f miss, ReportOver u
      { u with cycle := { u.cycle with phase := .window f, headMiss := miss } } := fun f miss =>
    ⟨wait, fun _ => nofun, rfl, fun _ _ _ => rfl⟩
  unfold Machine.openExamine
  split
  · exact window .idle u.cycle.headMiss
  · next e rest _ =>
    split
    · exact sendHead wait e rest
    · split
      · exact window .closed _
      · have discarded : ∀ {j : Counter}, j ≠ .serviceDiscarded →
            (u.bump .serviceDiscarded).requests.counters.get j = u.requests.counters.get j :=
          fun h => Counters.get_bump_other _ h
        dsimp only
        split
        · exact ⟨wait, fun _ => nofun, rfl, fun _ _ hd => discarded hd⟩
        · next e' rest' _ =>
          split
          · have sent := sendHead (u := ({ u with
                switch := { u.switch with down := e' :: rest' }
                cycle := { u.cycle with headMiss := 0 } } : State).bump .serviceDiscarded) wait e' rest'
            exact ⟨sent.wait, sent.phase, sent.nodes, fun j ha hd => (sent.counters j ha hd).trans (discarded hd)⟩
          · exact ⟨wait, fun _ => nofun, rfl, fun _ _ hd => discarded hd⟩

theorem afterReport (l : Line) (k : Station) (s : State) : ReportOver s (afterReport l k s) := by
  have opens : ReportOver s (openWindow l (endWait s)) :=
    have opened := (openExamine l (u := endWait s) rfl).takeDeferred
    ⟨opened.wait, opened.phase, opened.nodes, opened.counters⟩
  unfold Machine.afterReport
  cases k with
  | one =>
    dsimp only
    split
    · refine ReportOver.drive ?_ _
      exact ⟨rfl, fun _ => nofun, rfl, fun _ _ _ => rfl⟩
    · exact opens
  | two => exact opens

end ReportOver

/-- The stations keep their states where the channels are composed (R146). -/
theorem DeferredComposes.stations {s t : State} (h : DeferredComposes s t) : t.arms.stations = s.arms.stations := by
  obtain same | ⟨-, u, same, composed⟩ := h
  · rw [same]
  · rw [composed, ← same]
    rfl

/-- Without a deferred start nothing is composed (R145). -/
theorem DeferredComposes.arms {s t : State} (h : DeferredComposes s t) (no : s.cycle.deferred = false) :
    t.arms = s.arms :=
  h.resolve_right fun c => Bool.false_ne_true (no.symm.trans c.1)

/-! ## A missing report -/

/-- What a command can do to the state before the report it judges is missing: the clock, the Port D receiver and the
counters move. -/
def State.Heard (s base : State) : Prop :=
  base = { s with
    now := base.now, portD := { s.portD with rx := base.portD.rx }
    requests := { s.requests with counters := base.requests.counters } }

/-- What such a command keeps: any part of the state that has none of the three in it. -/
theorem State.Heard.kept {α : Type} {s base : State} (h : s.Heard base) (part : State → α)
    (apart : ∀ n rx k, part { s with
        now := n, portD := { s.portD with rx := rx }, requests := { s.requests with counters := k } } = part s :=
      by exact fun _ _ _ => rfl) : part base = part s :=
  (congrArg part h).trans (apart _ _ _)

/-- The state in which the wait for a missing report is over (R153). -/
def State.missed (s : State) (k : Station) : State :=
  State.counted { s with cycle := { s.cycle with
    wait := none, nodes := s.cycle.nodes.set k (s.cycle.nodes.get k).miss } } (missingCounter k)

theorem Node.miss_eq (m : Nat) (was : Bool) :
    Node.miss { missing := m, silent := was } =
      { missing := if m < 255 then m + 1 else m
        silent := was || decide (3 ≤ if m < 255 then m + 1 else m) } := rfl

/-- What follows a missing report on a released line (R148, R153, R156). -/
theorem reportMissing_follows {s : State} {l : Line} (k : Station) (line : s.mode.line = some l)
    (free : s.portD.tx = none) : (s.missed k).AfterReportWait l k (fun t => reportMissing l k s = t) :=
  afterReport_follows (s := (s.setNode k (s.cycle.nodes.get k).miss).bump (missingCounter k)) line free

theorem missingCounter_ne (k : Station) : missingCounter k ≠ .framesAborted ∧ missingCounter k ≠ .serviceDiscarded := by
  cases k <;> exact ⟨nofun, nofun⟩

/-- Settles O59: the report is missing at the timeout and at the limit alike. -/
theorem waitsEndInTheServiceWindow : Obligations.WaitsEndInTheServiceWindow := by
  intro s c l w k ends expires counter n m ended line wait phase expired free
  have missing : exec c s = .next (reportMissing l k (s.reach ends)) := by
    obtain ⟨rfl, unbegun, rfl⟩ | ⟨rfl, begun, rfl⟩ := expired
    · exact congrArg Host.Outcome.next (reportTimeoutRuns_of_unbegun line wait phase unbegun)
    · exact congrArg Host.Outcome.next (reportLimitReached_of_begun line wait phase begun)
  rw [answers_next missing]
  cases k <;> exact reportMissing_follows (s := s.reach ends) _ line free

end Sys2Proof.Machine
end

section
/-! PROOFS. What each command makes of a report wait (R149 to R153): the causes of a missing report, and the claim that
each of them ends the wait and is counted. -/

namespace Sys2Proof.Machine

/-! ## The causes of a missing report -/

/-- The good frame judged leaves the receiver in HUNT (R3, log 1). -/
theorem wholeFrameD_of_report {s : State} {l : Line} {w : Wait} {k : Station} (line : s.mode.line = some l)
    (wait : s.cycle.wait = some w) (phase : s.cycle.phase = .report k) (f : Frame) :
    wholeFrameD f s = judgeReport l k f (s.withRxD s.portD.rx.hunted) :=
  goodFrameD_of_report (s := s.withRxD s.portD.rx.hunted) line wait phase f

/-- The counters in which a frame that a byte spoils is counted are the receiver's (R4, R6, R7). -/
theorem spoiled_counter {rx r : Receiver} {now : Nat} {b : Byte} {x : Counter}
    (h : rx.spoils now b r x) : x ≠ .reportsMissing1 ∧ x ≠ .reportsMissing2 := by
  obtain ⟨-, ⟨-, -, rfl⟩ | ⟨-, -, rfl⟩ | ⟨_, _, _, _, _, -, -, -, -, -, rfl⟩ | ⟨_, _, _, _, _, -, -, -, -, -, rfl⟩⟩ := h <;>
    exact ⟨nofun, nofun⟩

/-- A command finds the report of node k missing, having made the state base of the clock, the receiver and the
counters. -/
structure Misses (c : Instr) (s base : State) (l : Line) (k : Station) : Prop where
  heard : s.Heard base
  counter : base.requests.counters.get (missingCounter k) = s.requests.counters.get (missingCounter k)
  missing : exec c s = .next (reportMissing l k base)

namespace Misses

variable {s : State} {l : Line} {w : Wait} {k : Station}

theorem ofTimeout (line : s.mode.line = some l) (wait : s.cycle.wait = some w) (phase : s.cycle.phase = .report k)
    (unbegun : w.begun = false) :
    Misses .reportTimeout s { s with now := max s.now (w.released + l.record.reportTimeout) } l k :=
  ⟨rfl, rfl, congrArg Host.Outcome.next (reportTimeoutRuns_of_unbegun line wait phase unbegun)⟩

theorem ofLimit (line : s.mode.line = some l) (wait : s.cycle.wait = some w) (phase : s.cycle.phase = .report k)
    (begun : w.begun = true) :
    Misses .reportLimit s { s with now := max s.now (w.released + l.record.reportTimeout + 250) } l k :=
  ⟨rfl, rfl, congrArg Host.Outcome.next (reportLimitReached_of_begun line wait phase begun)⟩

/-- The counters of the receiver and of unawaited frames are not those of missing reports. -/
theorem counted_other (k : Station) {x : Counter} (h : x ≠ .reportsMissing1 ∧ x ≠ .reportsMissing2) (t : State) :
    (t.counted x).requests.counters.get (missingCounter k) = t.requests.counters.get (missingCounter k) :=
  Counters.get_bump_other _ (by cases k <;> [exact h.1.symm; exact h.2.symm])

theorem ofGap (line : s.mode.line = some l) (wait : s.cycle.wait = some w) (phase : s.cycle.phase = .report k)
    (receiving : s.portD.rx.phase ≠ .hunt) :
    Misses (.byteGapTimeout .d) s
      (State.counted { s.withRxD s.portD.rx.hunted with now := max s.now (s.portD.rx.gapFrom + 50) } .framesAborted)
      l k :=
  ⟨rfl, counted_other k (x := .framesAborted) ⟨nofun, nofun⟩ _,
    congrArg Host.Outcome.next ((gapD_of_receiving receiving).trans (badFrameD_of_report line wait phase))⟩

theorem ofSpoiled (line : s.mode.line = some l) (wait : s.cycle.wait = some w) (phase : s.cycle.phase = .report k)
    {b : Byte} {r : Receiver} {x : Counter} (free : s.portD.tx = none) (spoiled : s.portD.rx.spoils s.now b r x) :
    Misses (.receiveByte .d b) s ((s.withRxD r).counted x) l k :=
  ⟨rfl, counted_other k (spoiled_counter spoiled) _,
    congrArg Host.Outcome.next ((byteD_of_spoils free spoiled).trans
      (badFrameD_of_report (s := (s.withRxD r).counted x) line wait phase))⟩

theorem ofUnsolicited (line : s.mode.line = some l) (wait : s.cycle.wait = some w) (phase : s.cycle.phase = .report k)
    {f : Frame} (foreign : f.kind ≠ 0x32#8 ∨ f.src ≠ nodeAddr l k ∨ f.dest ≠ s.switch.ownAddr) :
    Misses (.unsolicited f) s ((s.withRxD s.portD.rx.hunted).counted .unsolicited) l k :=
  ⟨rfl, counted_other k (x := .unsolicited) ⟨nofun, nofun⟩ _,
    congrArg Host.Outcome.next ((wholeFrameD_of_report line wait phase f).trans
      (judgeReport_of_foreign (s := s.withRxD s.portD.rx.hunted) foreign))⟩

/-- What makes the contents of a report wrong (R151). -/
def Wrong (s : State) (p : List Byte) : Prop :=
  p.length ≠ 17 ∨ rd16 p 0 ≠ s.cycle.number ∨ ∃ i, i < 5 ∧ rd8 p (4 + 3 * i) % 4 = 3

theorem judged_of_wrong {base : State} {p : List Byte} (wrong : Wrong base p) :
    judgeReport l k (Frame.mk base.switch.ownAddr (nodeAddr l k) 0x32#8 p) base = reportMissing l k base := by
  rw [judgeReport_of_report, if_neg (reportContents_of_wrong wrong)]

theorem ofReport (line : s.mode.line = some l) (wait : s.cycle.wait = some w) (phase : s.cycle.phase = .report k)
    {p : List Byte} (wrong : Wrong s p) :
    Misses (.armReport s.switch.ownAddr (nodeAddr l k) p) s (s.withRxD s.portD.rx.hunted) l k :=
  ⟨rfl, rfl, congrArg Host.Outcome.next ((wholeFrameD_of_report line wait phase _).trans
    (judged_of_wrong (base := s.withRxD s.portD.rx.hunted) wrong))⟩

section completed

variable {b : Byte} {f : Frame} (line : s.mode.line = some l) (wait : s.cycle.wait = some w)
  (phase : s.cycle.phase = .report k) (free : s.portD.tx = none)

include line wait phase free

theorem byteD_of_completed (good : s.portD.rx.completes b f) :
    byteD b s = judgeReport l k f ((s.withRxD s.portD.rx.hunted).counted .dFramesOk) :=
  (byteD_of_completes free good).trans
    (goodFrameD_of_report (s := (s.withRxD s.portD.rx.hunted).counted .dFramesOk) line wait phase f)

theorem ofForeign (good : s.portD.rx.completes b f)
    (foreign : f.kind ≠ 0x32#8 ∨ f.src ≠ nodeAddr l k ∨ f.dest ≠ s.switch.ownAddr) :
    Misses (.receiveByte .d b) s
      (((s.withRxD s.portD.rx.hunted).counted .dFramesOk).counted .unsolicited) l k :=
  ⟨rfl, (counted_other k (x := .unsolicited) ⟨nofun, nofun⟩ _).trans
      (counted_other k (x := .dFramesOk) ⟨nofun, nofun⟩ _),
    congrArg Host.Outcome.next ((byteD_of_completed line wait phase free good).trans
      (judgeReport_of_foreign (s := (s.withRxD s.portD.rx.hunted).counted .dFramesOk) foreign))⟩

theorem ofWrong {p : List Byte}
    (good : s.portD.rx.completes b (Frame.mk s.switch.ownAddr (nodeAddr l k) 0x32#8 p)) (wrong : Wrong s p) :
    Misses (.receiveByte .d b) s ((s.withRxD s.portD.rx.hunted).counted .dFramesOk) l k :=
  ⟨rfl, counted_other k (x := .dFramesOk) ⟨nofun, nofun⟩ _,
    congrArg Host.Outcome.next ((byteD_of_completed line wait phase free good).trans
      (judged_of_wrong (base := (s.withRxD s.portD.rx.hunted).counted .dFramesOk) wrong))⟩

end completed

end Misses

/-- Settles O56: every cause finds the report missing, and the cycle goes on from there. -/
theorem missingReportIsCounted : Obligations.MissingReportIsCounted := by
  intro s base c l w k m was addr counter received hunted at_ foreign wrong byte misses missing ended line wait phase
    node caused
  have address : addr = nodeAddr l k := by cases k <;> rfl
  have counts : counter = missingCounter k := by cases k <;> rfl
  have missed : Misses c s base l k := by
    obtain ⟨rfl, unbegun, rfl⟩ | ⟨rfl, begun, rfl⟩ | ⟨rfl, receiving, rfl⟩ | ⟨b, r, x, ⟨rfl, free⟩, spoiled, rfl⟩ |
      ⟨f, rfl, other, rfl⟩ | ⟨p, rfl, bad, rfl⟩ | ⟨b, f, ⟨rfl, free⟩, good, other, rfl⟩ |
      ⟨b, p, ⟨rfl, free⟩, good, bad, rfl⟩ := caused
    · exact .ofTimeout line wait phase unbegun
    · exact .ofLimit line wait phase begun
    · exact .ofGap line wait phase receiving
    · exact .ofSpoiled line wait phase free spoiled
    · exact .ofUnsolicited line wait phase (address ▸ other)
    · rw [address]; exact .ofReport line wait phase bad
    · exact .ofForeign line wait phase free good (address ▸ other)
    · exact .ofWrong line wait phase free (address ▸ good) bad
  obtain ⟨heard, kept, next⟩ := missed
  have cycle : base.cycle = s.cycle := heard.kept State.cycle
  have ended_eq : base.missed k = ended := by
    simp only [State.missed, cycle, node, Node.miss_eq, ended, missing, counts]
  have line' : base.mode.line = some l := (heard.kept fun t => t.mode.line).trans line
  let x := (base.setNode k (base.cycle.nodes.get k).miss).bump (missingCounter k)
  have settled : ReportOver x (reportMissing l k base) := ReportOver.afterReport l k x
  have frame : CycleFrame x (reportMissing l k base) := afterReport_cycleFrame l k x
  have composes : DeferredComposes x (reportMissing l k base) := afterReport_deferredComposes l k x
  have arms : x.arms = s.arms := heard.kept State.arms
  refine ⟨fun free => ?_, reportMissing l k base, next, settled.wait, settled.phase k, ?_, ?_, ?_, fun undeferred => ?_,
    ?_, ?_, ?_, ?_, ?_, ?_, ?_⟩
  · have free' : base.portD.tx = none := (heard.kept fun t => t.portD.tx).trans free
    rw [answers_next next, ← ended_eq]
    exact reportMissing_follows k line' free'
  · rw [counts, settled.counters _ (missingCounter_ne k).1 (missingCounter_ne k).2]
    exact (Counters.get_bump_same _ _).trans (congrArg (riseTo 65535) kept)
  · intro j aborted discarded
    rw [settled.counters j aborted discarded, ← ended_eq]
    rfl
  · rw [settled.nodes, ← ended_eq]
    rfl
  · exact (composes.arms ((heard.kept fun t => t.cycle.deferred).trans undeferred)).trans arms
  · exact composes.stations.trans (congrArg ArmController.stations arms)
  · exact frame.mode.trans (heard.kept State.mode)
  · exact frame.tables.trans (heard.kept State.tables)
  · exact frame.tracker.trans (heard.kept State.tracker)
  · exact frame.travel.trans (heard.kept State.travel)
  · exact frame.inputs.trans (heard.kept State.inputs)
  · exact frame.replies.trans (heard.kept fun t => t.requests.replies)

end Sys2Proof.Machine
end

section
/-! PROOFS. A good report (R133 to R135, R152), line by line of the deviation check, and what follows it; reply waits and
the frames nobody awaits (R159, R160, R155). -/

namespace Sys2Proof.Machine

/-! ## The deviation check (R133 to R135) -/

theorem supervised_iff {x : StationState} {silent : Bool} {c : Channel} :
    supervised x silent c = true ↔ (∃ id, x = .engaged id) ∧ silent = false ∧ 4 ≤ c.closedCycles := by
  have grace : decide (Config.graceCycles ≤ c.closedCycles) = true ↔ 4 ≤ c.closedCycles := decide_eq_true_iff
  cases x <;> simp [supervised, grace]

section entry

variable {r : LineRecord} {x : StationState} {silent : Bool} {e : ReportEntry} {c : Channel}

theorem takeEntry_of_not_ready (h : c.state ≠ .ready) : takeEntry r x silent e c = c := by
  unfold takeEntry
  split
  · next ready => exact absurd ready h
  · rfl

theorem takeEntry_of_unsupervised (ready : c.state = .ready) (sound : e.fault = false)
    (h : ¬ supervised x silent c = true) : takeEntry r x silent e c = c := by
  simp only [takeEntry, ready, sound, Bool.false_eq_true, if_false, h]

theorem takeEntry_of_supervised (ready : c.state = .ready) (sound : e.fault = false)
    (h : supervised x silent c = true) : takeEntry r x silent e c = checkDeviation r e.pressure c := by
  simp only [takeEntry, ready, sound, Bool.false_eq_true, if_false, h, if_true]

theorem checkDeviation_of_within {n : Nat} (h : ¬ r.deviation < ((n : Int) - c.previous).natAbs) :
    checkDeviation r n c = { c with deviations := 0 } := if_neg h

theorem checkDeviation_of_raised {n : Nat} (h : r.deviation < ((n : Int) - c.previous).natAbs)
    (low : c.deviations + 1 < r.deviationLimit) : checkDeviation r n c = { c with deviations := c.deviations + 1 } :=
  (if_pos h).trans (if_neg (Nat.not_le.2 low))

theorem checkDeviation_of_limit {n : Nat} (h : r.deviation < ((n : Int) - c.previous).natAbs)
    (limit : r.deviationLimit ≤ c.deviations + 1) : checkDeviation r n c = c.isolate :=
  (if_pos h).trans (if_pos limit)

end entry

theorem takeEntries_length (r : LineRecord) (x : StationState) (silent : Bool) (p : List Byte) (cs : List Channel) :
    (takeEntries r x silent (reportEntries p) cs).length = min 5 cs.length := by
  simp [takeEntries, reportEntries, Nat.min_comm]

/-! ## The claim about a good report -/

/-- The state in which the wait for a good report of node k is over (R152). -/
def State.reportTaken (s : State) (l : Line) (k : Station) (p : List Byte) : State :=
  { s with
    arms := { s.arms with channels := s.arms.channels.set k (takeEntries l.record (s.arms.stations.get k)
      (s.cycle.nodes.get k).silent (reportEntries p) (s.arms.channels.get k)) }
    cycle := { s.cycle with wait := none, nodes := s.cycle.nodes.set k { missing := 0, silent := false } } }

/-- What follows a good report on a released line (R148, R156). -/
theorem goodReport_follows {s : State} {l : Line} (k : Station) (p : List Byte) (line : s.mode.line = some l)
    (free : s.portD.tx = none) :
    (s.reportTaken l k p).AfterReportWait l k (fun t => goodReport l k p s = t) :=
  afterReport_follows (s := (s.onChannels k (takeEntries l.record (s.arms.stations.get k)
    (s.cycle.nodes.get k).silent (reportEntries p))).setNode k { missing := 0, silent := false }) line free

theorem goodReport_over (l : Line) (k : Station) (p : List Byte) (s : State) :
    ReportOver (s.reportTaken l k p) (goodReport l k p s) := by
  have settled := ReportOver.afterReport l k ((s.onChannels k (takeEntries l.record (s.arms.stations.get k)
    (s.cycle.nodes.get k).silent (reportEntries p))).setNode k { missing := 0, silent := false })
  exact ⟨settled.wait, settled.phase, settled.nodes, settled.counters⟩

theorem goodReport_composes (l : Line) (k : Station) (p : List Byte) (s : State) :
    DeferredComposes (s.reportTaken l k p) (goodReport l k p s) :=
  afterReport_deferredComposes l k ((s.onChannels k (takeEntries l.record (s.arms.stations.get k)
    (s.cycle.nodes.get k).silent (reportEntries p))).setNode k { missing := 0, silent := false })

/-- Settles O58: the entries line by line, then the end of the wait. -/
theorem goodReportSupervisesChannels : Obligations.GoodReportSupervisesChannels := by
  intro s base c l w k p addr hunted reported compared above line wait phase caused len number valid
  have address : addr = nodeAddr l k := by cases k <;> rfl
  have right : reportContents s p = true := reportContents_of_right len number valid
  have taken : exec c s = .next (goodReport l k p base) ∧ base.arms = s.arms ∧ base.cycle = s.cycle
      ∧ base.mode = s.mode ∧ base.portD.tx = s.portD.tx := by
    obtain ⟨rfl, rfl⟩ | ⟨b, rfl, free, good, rfl⟩ := caused
    · exact ⟨address ▸ exec_armReport_of_right line wait phase right, rfl, rfl, rfl, rfl⟩
    · refine ⟨congrArg Host.Outcome.next ((Misses.byteD_of_completed line wait phase free (address ▸ good)).trans ?_),
        rfl, rfl, rfl, rfl⟩
      exact (judgeReport_of_report (s := (s.withRxD s.portD.rx.hunted).counted .dFramesOk) p).trans (if_pos right)
  obtain ⟨next, arms, cycle, mode, wire⟩ := taken
  let channels := takeEntries l.record (s.arms.stations.get k) (s.cycle.nodes.get k).silent (reportEntries p)
    (s.arms.channels.get k)
  have ended_eq : base.reportTaken l k p = { base with
      arms := { s.arms with channels := s.arms.channels.set k channels }
      cycle := { s.cycle with
        wait := none, nodes := s.cycle.nodes.set k { missing := 0, silent := false } } } := by
    simp only [State.reportTaken, arms, cycle, channels]
  refine ⟨channels, ?_, ?_, ⟨goodReport l k p base, next, ?_⟩, ?_⟩
  · exact takeEntries_length ..
  · intro i ch hi channel placed
    have entry : channels[i]? = some
        { takeEntry l.record (s.arms.stations.get k) (s.cycle.nodes.get k).silent (reportEntry p i) ch with
          position := (reportEntry p i).position } := takeEntries_getElem? _ _ _ p hi channel
    refine ⟨_, entry, fun notReady => ?_, fun ready sound => ?_⟩
    · rw [takeEntry_of_not_ready notReady]
      rfl
    · have sound : (reportEntry p i).fault = false := decide_eq_false (Nat.not_le.2 sound)
      refine ⟨fun off => ?_, fun on within => ?_, fun on raised low => ?_, fun on raised limit => ?_⟩
      · rw [takeEntry_of_unsupervised ready sound (mt supervised_iff.1 off)]
        rfl
      all_goals rw [takeEntry_of_supervised ready sound (supervised_iff.2 on)]
      · rw [checkDeviation_of_within (n := (reportEntry p i).pressure) within]
        rfl
      · rw [checkDeviation_of_raised (n := (reportEntry p i).pressure) raised low]
        rfl
      · rw [checkDeviation_of_limit (n := (reportEntry p i).pressure) raised limit]
        rfl
  · have settled := goodReport_over l k p base
    have composes := goodReport_composes l k p base
    rw [ended_eq] at settled composes
    exact ⟨settled.wait, settled.nodes, composes.stations, composes.arms⟩
  · intro free
    rw [answers_next next, ← ended_eq]
    exact goodReport_follows k p (by rw [mode]; exact line) (wire.trans free)

/-! ## Reply waits (R159, R160) -/

section replyWait

variable {s : State} {l : Line} {w : Wait} {addr : Byte} (line : s.mode.line = some l) (wait : s.cycle.wait = some w)
  (phase : s.cycle.phase = .window (.replyWait addr))

include line wait phase

theorem goodFrameD_of_replyWait (f : Frame) :
    goodFrameD f s = afterReply l (if f.src = addr then offerUp f s else s.counted .unsolicited) := by
  unfold goodFrameD
  rw [line, wait, phase]
  simp only [judgeReply, beq_iff_eq]
  rfl

theorem badFrameD_of_replyWait : badFrameD s = afterReply l s := by
  unfold badFrameD
  rw [line, wait, phase]

theorem replyTimeoutRuns_of_unbegun (unbegun : w.begun = false) :
    replyTimeoutRuns s = afterReply l (s.reach (w.released + l.record.reportTimeout)) := by
  unfold replyTimeoutRuns
  rw [line, wait, phase]
  exact if_neg (by simp [unbegun])

theorem replyLimitReached_of_begun (begun : w.begun = true) :
    replyLimitReached s = afterReply l (s.reach (w.released + l.record.reportTimeout + 1280)) := by
  unfold replyLimitReached
  rw [line, wait, phase]
  exact if_pos begun

end replyWait

/-- A frame offered to the upstream forward queue, with and without room (R11). -/
theorem offerUp_of_room {s : State} {f : Frame}
    (h : (s.switch.up.map (fun g => 4 + g.payload.length)).sum + (4 + f.payload.length) ≤ 1024) :
    offerUp f s = { s with switch := { s.switch with up := s.switch.up ++ [f] } } := if_pos h

theorem offerUp_of_full {s : State} {f : Frame}
    (h : ¬ (s.switch.up.map (fun g => 4 + g.payload.length)).sum + (4 + f.payload.length) ≤ 1024) :
    offerUp f s = s.counted .forwardDropped := if_neg h

/-- What follows a reply wait on a released line (R156, R159). -/
theorem afterReply_follows {s : State} {l : Line} (line : s.mode.line = some l) (free : s.portD.tx = none) :
    State.NextHead { s with cycle := { s.cycle with wait := none } } l (fun t => afterReply l s = t) :=
  nextHead_follows (u := endWait s) line free

/-! ## No wait in progress -/

theorem waits_of_no_wait {s : State} (h : s.cycle.wait = none) :
    reportTimeoutRuns s = s ∧ reportLimitReached s = s ∧ replyTimeoutRuns s = s ∧ replyLimitReached s = s := by
  refine ⟨?_, ?_, ?_, ?_⟩
  · unfold reportTimeoutRuns
    split
    · next hw _ => cases h.symm.trans hw
    · rfl
  · unfold reportLimitReached
    split
    · next hw _ => cases h.symm.trans hw
    · rfl
  · unfold replyTimeoutRuns
    split
    · next hw _ => cases h.symm.trans hw
    · rfl
  · unfold replyLimitReached
    split
    · next hw _ => cases h.symm.trans hw
    · rfl

/-- Settles O60: the causes by which a reply wait ends, and the commands that find no wait. -/
theorem replyWaitsAndUnawaitedFrames : Obligations.ReplyWaitsAndUnawaitedFrames := by
  refine ⟨?_, ?_⟩
  · intro s l w addr b f r counter received hunted room at_ goesOn takes line wait phase free
    have ends : ∀ {c t}, t.mode.line = some l → t.portD.tx = none → exec c s = .next (afterReply l t) → goesOn c t := by
      intro c t line free h
      show State.NextHead _ l (fun u => exec c s = .next u)
      rw [answers_next h]
      exact afterReply_follows line free
    have judges : ∀ {c t}, t.mode.line = some l → t.portD.tx = none → t.cycle.wait = some w →
        t.cycle.phase = .window (.replyWait addr) → t.switch = s.switch →
        exec c s = .next (goodFrameD f t) → takes c t := by
      intro c t line free wait phase switch h
      rw [goodFrameD_of_replyWait line wait phase] at h
      refine ⟨fun src fits => ?_, fun src full => ?_, fun src => ?_⟩
      · rw [if_pos src, offerUp_of_room (by rw [switch]; exact fits), switch] at h
        exact ends (by exact line) (by exact free) h
      · rw [if_pos src, offerUp_of_full (by rw [switch]; exact full)] at h
        exact ends (by exact line) (by exact free) h
      · rw [if_neg src] at h
        exact ends (by exact line) (by exact free) h
    refine ⟨?_, fun good => ?_, fun spoiled => ?_, fun receiving => ?_, fun unbegun => ?_, fun begun => ?_⟩
    · exact judges line free wait phase rfl rfl
    · exact judges (t := hunted.counted .dFramesOk) line free wait phase rfl
        (congrArg Host.Outcome.next (byteD_of_completes free good))
    · exact ends (t := (received r).counted counter) line free (congrArg Host.Outcome.next
        ((byteD_of_spoils free spoiled).trans
          (badFrameD_of_replyWait (s := (received r).counted counter) line wait phase)))
    · exact ends line free (congrArg Host.Outcome.next
        ((gapD_of_receiving receiving).trans (badFrameD_of_replyWait line wait phase)))
    · exact ends line free (congrArg Host.Outcome.next (replyTimeoutRuns_of_unbegun line wait phase unbegun))
    · exact ends line free (congrArg Host.Outcome.next (replyLimitReached_of_begun line wait phase begun))
  · intro s f alone
    obtain ⟨reportTimeout, reportLimit, replyTimeout, replyLimit⟩ := waits_of_no_wait alone
    exact ⟨congrArg Host.Outcome.next (goodFrameD_of_no_wait (by exact alone) f),
      congrArg Host.Outcome.next reportTimeout, congrArg Host.Outcome.next reportLimit,
      congrArg Host.Outcome.next replyTimeout, congrArg Host.Outcome.next replyLimit⟩

end Sys2Proof.Machine
end

section
/-! PROOFS. Integer arithmetic and pressures (R31, R96, R101, R103, R112, R114): signed differences, the rounding rule,
curves, clamps and the slew limit. -/

namespace Sys2Proof.Machine

/-! ## Travel differences and rounding (R31, R96) -/

/-- The difference modulo 2^24, with half the range taken as negative (R31). -/
theorem travelDiff_eq (t b : Travel) :
    travelDiff t b = if 8388608 ≤ (t.toNat + 16777216 - b.toNat) % 16777216
      then ((t.toNat + 16777216 - b.toNat) % 16777216 : Nat) - (16777216 : Int)
      else ((t.toNat + 16777216 - b.toNat) % 16777216 : Nat) := by
  have sub : (t - b).toNat = (t.toNat + 16777216 - b.toNat) % 16777216 := by bv_omega
  rw [travelDiff, BitVec.toInt_eq_toNat_cond, sub]
  split <;> split <;> omega

/-- The quotient of the rounding rule, without the sign: within half a divisor of the exact one, and above it at a
half (R96). -/
theorem roundedQuotient (n : Nat) {d : Nat} (h : 0 < d) :
    2 * ((2 * n + d) / (2 * d) * d) ≤ 2 * n + d ∧ 2 * n < 2 * ((2 * n + d) / (2 * d) * d) + d := by
  have low := Nat.div_mul_le_self (2 * n + d) (2 * d)
  have high := Nat.lt_div_mul_add (a := 2 * n + d) (show 0 < 2 * d by omega)
  rw [Nat.mul_left_comm] at low high
  omega

theorem roundDiv_nonneg {a : Int} (h : 0 ≤ a) (d : Nat) :
    roundDiv a d = ((2 * a.natAbs + d) / (2 * d) : Nat) := if_neg (Int.not_lt.2 h)

/-- Rounding is symmetric about 0 (R96). -/
theorem roundDiv_neg (a : Int) (d : Nat) : roundDiv (-a) d = -roundDiv a d := by
  unfold roundDiv
  rw [Int.natAbs_neg]
  by_cases zero : a = 0
  · have small : d / (2 * d) = 0 := Nat.div_eq_zero_iff.2 (by omega)
    simp [zero, small]
  · by_cases neg : a < 0
    · rw [if_neg (by omega), if_pos neg]
      omega
    · rw [if_pos (by omega), if_neg neg]

/-- Settles O22: the signed difference, and the quotient nearest the exact one. -/
theorem travelDifferenceAndRounding : Obligations.TravelDifferenceAndRounding := by
  refine ⟨fun t b => ⟨travelDiff_eq t b, ?_⟩, fun a d pos => ?_⟩
  · rw [travelDiff_eq]
    split <;> omega
  · obtain ⟨low, high⟩ := roundedQuotient a.natAbs pos
    generalize size : (2 * a.natAbs + d) / (2 * d) = q at low high
    have value : roundDiv a d = if a < 0 then -(q : Int) else q := by rw [← size]; rfl
    have cast : ((q * d : Nat) : Int) = q * d := by push_cast; rfl
    dsimp only
    rw [value]
    split
    · rw [Int.natAbs_neg, Int.natAbs_natCast, Int.neg_mul, ← cast]
      omega
    · rw [Int.natAbs_natCast, ← cast]
      omega

/-! ## Clamps and slew (R112, R114) -/

/-- The slew limit: the target within it, and a move by the whole limit beyond it (R114). -/
theorem slewed_bounds (slew prev : Nat) {b6 : Int} (h : 0 ≤ b6) :
    ((b6 - prev).natAbs ≤ slew → (slewed slew prev b6 : Int) = b6)
    ∧ (slew < (b6 - prev).natAbs → ((slewed slew prev b6 : Int) - prev).natAbs = slew)
    ∧ min (prev : Int) b6 ≤ slewed slew prev b6 ∧ (slewed slew prev b6 : Int) ≤ max (prev : Int) b6 := by
  unfold slewed
  split
  · omega
  · split <;> omega

/-- Settles O23: the two clamps one after the other, then the slew limit. -/
theorem pressureIsClampedThenSlewed : Obligations.PressureIsClampedThenSlewed := by
  intro e ceiling slew prev b5 bounds b6 x
  have clamped : b6 = min (if b5 < e.pMin then (e.pMin : Int) else if (e.pMax : Int) < b5 then (e.pMax : Int) else b5)
      (ceiling : Int) := rfl
  have nonneg : 0 ≤ b6 := by omega
  refine ⟨?_, ?_, nonneg, ?_, ?_, ?_, ?_, slewed_bounds slew prev nonneg⟩ <;> omega

/-! ## Curves (R101, R103) -/

/-- A whole quotient is left as it is (R96). -/
theorem roundDiv_mul_self (k : Int) {d : Nat} (h : 0 < d) : roundDiv (k * d) d = k := by
  have whole : ∀ n : Nat, roundDiv ((n : Int) * d) d = n := by
    intro n
    have exact : (2 * (n * d) + d) / (2 * d) = n := by
      rw [Nat.div_eq_iff (by omega), Nat.mul_left_comm]
      omega
    rw [roundDiv_nonneg (by positivity), Int.natAbs_mul, Int.natAbs_natCast, Int.natAbs_natCast, exact]
  obtain ⟨n, rfl | rfl⟩ := Int.eq_nat_or_neg k
  · exact whole n
  · rw [Int.neg_mul, roundDiv_neg, whole]

/-- A part of a step is rounded to something between nothing and the step (R96). -/
theorem roundDiv_part (k : Int) {m d : Nat} (h : 0 < d) (part : m ≤ d) :
    min 0 k ≤ roundDiv (k * m) d ∧ roundDiv (k * m) d ≤ max 0 k := by
  have whole : ∀ n : Nat, 0 ≤ roundDiv ((n : Int) * m) d ∧ roundDiv ((n : Int) * m) d ≤ n := by
    intro n
    have size : n * m ≤ n * d := Nat.mul_le_mul_left n part
    have below : (2 * (n * m) + d) / (2 * d) ≤ n := by
      refine Nat.le_of_lt_succ ((Nat.div_lt_iff_lt_mul (by omega)).2 ?_)
      have whole : n.succ * (2 * d) = 2 * (n * d) + 2 * d := by rw [Nat.succ_mul, Nat.mul_left_comm]
      omega
    rw [roundDiv_nonneg (by positivity), Int.natAbs_mul, Int.natAbs_natCast, Int.natAbs_natCast]
    exact ⟨by positivity, by exact_mod_cast below⟩
  obtain ⟨n, rfl | rfl⟩ := Int.eq_nat_or_neg k
  · have := whole n
    omega
  · have := whole n
    rw [Int.neg_mul, roundDiv_neg]
    omega

section curve

variable {x : Int}

/-- At the point itself nothing is added (R101). -/
theorem alongCurve_at_point {x0 : Nat} (y0 : Nat) {c : List (Nat × Nat)} (rises : ∀ q ∈ c, x0 < q.1) :
    alongCurve x0 x0 y0 c = y0 := by
  cases c with
  | nil => rfl
  | cons q rest =>
    have before : (x0 : Int) < q.1 := by exact_mod_cast rises q List.mem_cons_self
    rw [alongCurve, if_pos before, interpolate, Int.sub_self, Int.mul_zero]
    have zero : roundDiv 0 ((q.1 : Int) - x0).toNat = 0 := by
      have := roundDiv_mul_self 0 (d := ((q.1 : Int) - x0).toNat) (by omega)
      rwa [Int.zero_mul] at this
    rw [zero, Int.add_zero]

/-- Points that x has reached are passed over (R101). -/
theorem alongCurve_append {p : Nat × Nat} (back : List (Nat × Nat)) (reached : (p.1 : Int) ≤ x) :
    ∀ (front : List (Nat × Nat)) (x0 y0 : Nat), (∀ q ∈ front, q.1 < p.1) →
      alongCurve x x0 y0 (front ++ p :: back) = alongCurve x p.1 p.2 back
  | [], _, _, _ => if_neg (Int.not_lt.2 reached)
  | q :: front, x0, y0, below => by
    have passed : ¬ x < (q.1 : Int) := by
      have := below q List.mem_cons_self
      omega
    rw [List.cons_append, alongCurve, if_neg passed]
    exact alongCurve_append back reached front q.1 q.2 fun r hr => below r (List.mem_cons_of_mem _ hr)

/-- From a point on, a rising curve is read along the points behind it. -/
theorem onCurve_from {front back : List (Nat × Nat)} {p : Nat × Nat}
    (rises : (front ++ p :: back).Pairwise (fun u v => u.1 < v.1)) (reached : (p.1 : Int) ≤ x) :
    onCurve x (front ++ p :: back) = alongCurve x p.1 p.2 back := by
  obtain ⟨-, behind, below⟩ := List.pairwise_append.1 rises
  have later : ∀ q ∈ back, p.1 < q.1 := (List.pairwise_cons.1 behind).1
  cases front with
  | nil =>
    rw [List.nil_append, onCurve]
    split
    · next notPast =>
      obtain rfl : x = p.1 := Int.le_antisymm notPast reached
      exact (alongCurve_at_point p.2 later).symm
    · rfl
  | cons q front =>
    have earlier : ∀ r ∈ q :: front, r.1 < p.1 := fun r hr => below r hr p List.mem_cons_self
    have past : ¬ x ≤ (q.1 : Int) := by
      have := earlier q List.mem_cons_self
      omega
    rw [List.cons_append, onCurve, if_neg past]
    exact alongCurve_append back reached front q.1 q.2 fun r hr => earlier r (List.mem_cons_of_mem _ hr)

/-- Between two neighbouring points a rising curve is the line between them (R101, R103). -/
theorem onCurve_between {front back : List (Nat × Nat)} {p q : Nat × Nat}
    (rises : (front ++ p :: q :: back).Pairwise (fun u v => u.1 < v.1)) (reached : (p.1 : Int) ≤ x)
    (before : x ≤ (q.1 : Int)) :
    onCurve x (front ++ p :: q :: back) = p.2 + roundDiv (((q.2 : Int) - p.2) * (x - p.1)) (q.1 - p.1) := by
  obtain ⟨-, behind, -⟩ := List.pairwise_append.1 rises
  have step : p.1 < q.1 := (List.pairwise_cons.1 behind).1 q List.mem_cons_self
  have width : ((q.1 : Int) - p.1).toNat = q.1 - p.1 := by omega
  rw [onCurve_from rises reached, alongCurve]
  split
  · rw [interpolate, width]
  · next notBefore =>
    obtain rfl : x = q.1 := by omega
    have exact : (q.1 : Int) - p.1 = ((q.1 - p.1 : Nat) : Int) := by omega
    rw [alongCurve_at_point q.2 (List.pairwise_cons.1 (List.pairwise_cons.1 behind).2).1, exact,
      roundDiv_mul_self _ (by omega)]
    omega

end curve

/-- Settles O24: the ends, the points, and the lines between neighbours. -/
theorem curvePassesThroughItsPoints : Obligations.CurvePassesThroughItsPoints := by
  intro x first last c front back p q rises
  refine ⟨fun head before => ?_, fun final past => ?_, fun point => ?_, fun split reached before => ?_⟩
  · obtain ⟨rest, rfl⟩ := List.head?_eq_some_iff.1 head
    exact if_pos before
  · obtain ⟨front, rfl⟩ := List.getLast?_eq_some_iff.1 final
    exact onCurve_from rises past
  · obtain ⟨front, back, rfl⟩ := List.append_of_mem point
    obtain ⟨-, behind, -⟩ := List.pairwise_append.1 rises
    rw [onCurve_from rises le_rfl]
    exact alongCurve_at_point p.2 (List.pairwise_cons.1 behind).1
  · subst split
    have value := onCurve_between rises reached before
    obtain ⟨-, behind, -⟩ := List.pairwise_append.1 rises
    have step : p.1 < q.1 := (List.pairwise_cons.1 behind).1 q List.mem_cons_self
    obtain ⟨m, moved⟩ : ∃ m : Nat, x - p.1 = m := ⟨(x - p.1).toNat, by omega⟩
    have part := roundDiv_part ((q.2 : Int) - p.2) (m := m) (d := q.1 - p.1) (by omega) (by omega)
    rw [← moved] at part
    refine ⟨value, ?_⟩
    rw [value]
    omega

end Sys2Proof.Machine
end

section
/-! PROOFS. The composition of a channel (R97 to R115): OPEN and CLOSE by mode, channel and station, and the target stage
by stage of Chapter 6. -/

namespace Sys2Proof.Machine

/-! ## OPEN and CLOSE (R97, R113, R114) -/

section composition

variable {s : State} {k : Station} {i : Nat} {c : Channel}

/-- OPEN unless the mode works, the channel is READY and its station ENGAGED (R97). -/
theorem closeTarget_of_open
    (h : s.mode.mode.works = false ∨ c.state ≠ .ready ∨ ∀ j, s.arms.stations.get k ≠ .engaged j) :
    s.closeTarget k i c = none := by
  unfold State.closeTarget
  split
  · next id _ engaged =>
    obtain idle | notReady | notEngaged := h
    · rw [idle]; rfl
    · exact if_neg (by simp [notReady])
    · exact absurd engaged (notEngaged id)
  · rfl

theorem closeTarget_of_engaged {id : Nat} {l : Line} {b : Int × Int} (works : s.mode.mode.works = true)
    (ready : c.state = .ready) (engaged : s.arms.stations.get k = .engaged id) (line : s.mode.line = some l)
    (target : s.target l k i id = some b) : s.closeTarget k i c = some (l, b.1, b.2) := by
  unfold State.closeTarget
  simp [line, engaged, works, ready, target]

theorem composeChannel_of_open (h : s.closeTarget k i c = none) :
    composeChannel s k i c =
      { c with previous := c.lastSent, lastSent := 0, closedCycles := 0, deviations := 0, clamp := false } := by
  simp only [composeChannel, h]

theorem composeChannel_of_close {l : Line} {b5 b6 : Int} (h : s.closeTarget k i c = some (l, b5, b6)) :
    composeChannel s k i c =
      { c with previous := c.lastSent, lastSent := slewed l.record.slew c.lastSent b6
               closedCycles := riseTo 255 c.closedCycles, clamp := clampFlag b5 b6 } := by
  simp only [composeChannel, h]

theorem clampFlag_eq (b5 b6 : Int) : clampFlag b5 b6 = decide (b6 ≠ b5) := by simp [clampFlag, bne, beq_eq_decide]

end composition

/-! ## The stages (R99 to R112) -/

theorem positionMm_eq (pitch : Nat) (len : Option LogLength) (q : Int) :
    positionMm pitch len q = match len with
      | some n => min (max 0 (roundDiv (q * pitch) 1000)) n.mm
      | none => max 0 (roundDiv (q * pitch) 1000) := by
  unfold positionMm
  dsimp only
  generalize roundDiv (q * pitch) 1000 = raw
  have floor : (if raw < 0 then 0 else raw) = max 0 raw := by omega
  rw [floor]
  cases len with
  | none => rfl
  | some n =>
    dsimp only
    omega

/-- The entry factor applies to a log that is not joined, short of the entry length (R107). -/
theorem entryFactor_eq (e : SpeciesEntry) (joined : Bool) (p : Int) :
    entryFactor e joined p = if joined = false ∧ 0 < e.entryLength ∧ p < e.entryLength
      then some (e.entryStart + roundDiv ((100 - (e.entryStart : Int)) * p) e.entryLength) else none := by
  unfold entryFactor
  congr 1
  simp [and_assoc]

/-- The tail factor applies within the tail length of a known end that no joined log follows (R108). -/
theorem tailFactor_eq (e : SpeciesEntry) (n : LogLength) (joined : Bool) (p : Int) :
    tailFactor e (some n) joined p = if 0 < e.tailLength ∧ n.mm - e.tailLength < p ∧ joined = false
      then some (e.tailEnd + roundDiv ((100 - (e.tailEnd : Int)) * (n.mm - p)) e.tailLength) else none := by
  unfold tailFactor
  simp [and_assoc]

/-- The smallest of the factors that apply (R109). -/
theorem phaseFactor_ite {enters leaves : Prop} [Decidable enters] [Decidable leaves] (g h : Int) :
    phaseFactor (if enters then some g else none) (if leaves then some h else none)
      = if leaves then (if enters then min g h else h) else if enters then g else 100 := by
  by_cases enters <;> by_cases leaves <;> simp [phaseFactor, *]

theorem phaseFactor_entry {enters : Prop} [Decidable enters] (g : Int) :
    phaseFactor (if enters then some g else none) none = if enters then g else 100 := by
  by_cases enters <;> simp [phaseFactor, *]

/-- The smallest of the factors of a record that apply, the tail's only with no joined log behind (R107 to R109). -/
theorem phaseFactor_eq (e : SpeciesEntry) (joined : Bool) (len : Option LogLength) (behind : Option LogRecord) (p : Int) :
    phaseFactor (entryFactor e joined p)
        (tailFactor e len (match behind with | some y => y.joined | none => false) p) =
      let entry := e.entryStart + roundDiv ((100 - (e.entryStart : Int)) * p) e.entryLength
      let tail := fun n : LogLength => e.tailEnd + roundDiv ((100 - (e.tailEnd : Int)) * (n.mm - p)) e.tailLength
      let enters := joined = false ∧ 0 < e.entryLength ∧ p < e.entryLength
      let leaves := fun n : LogLength => 0 < e.tailLength ∧ n.mm - e.tailLength < p
        ∧ (∀ y ∈ behind, y.joined = false)
      match len with
      | some n => if leaves n then (if enters then min entry (tail n) else tail n)
          else if enters then entry else 100
      | none => if enters then entry else 100 := by
  rw [entryFactor_eq]
  cases len with
  | none => exact phaseFactor_entry _
  | some n =>
    have apart : (match behind with | some y => y.joined | none => false) = false
        ↔ ∀ z ∈ behind, z.joined = false := by cases behind <;> simp
    rw [tailFactor_eq, phaseFactor_ite]
    simp only [apart]

theorem clampInt_eq (lo hi x : Int) : clampInt lo hi x = if x < lo then lo else if hi < x then hi else x := rfl

theorem feedFactor_eq (e : SpeciesEntry) (feed : Nat) :
    feedFactor e feed = max 800 (min 1250 (1000 + roundDiv (e.slope * ((feed : Int) - e.vRef)) 100)) := by
  rw [feedFactor, clampInt_eq]
  omega

/-! ## The target of a queued record -/

theorem record?_append {s : State} {front back : List LogRecord} {r : LogRecord} {id : Nat}
    (queue : s.tracker.queue = front ++ r :: back) (other : ∀ y ∈ front, y.id ≠ id) (own : r.id = id) :
    s.record? id = some r := by
  have none : front.find? (fun y => y.id == id) = none := by simpa using other
  rw [State.record?, queue, List.find?_append, none, Option.none_or, List.find?_cons_of_pos (by simpa using own)]

/-- What the Pressure Calculator reads for a channel beside the record, when the log behind it is the one given (R98). -/
def State.pressureInputs (s : State) (l : Line) (k : Station) (i : Nat) (bank : Bank) (behind : Option LogRecord) :
    PressureInputs :=
  { travel := s.travel.t, contact := l.counts.contact.get k, pitch := l.record.pitch
    ceiling := l.record.ceiling, feed := s.travel.feed, dwell := s.travel.dwell
    dwellPercent := l.record.dwellPercent
    successorJoined := (match behind with | some y => y.joined | none => false)
    trim := (match bank.trims with | some t => t.getD (armBit k i) 0 | none => 0) }

/-- The target of a record that is there with its entry (R97, R98). -/
theorem target_of_record {s : State} {l : Line} {k : Station} {i id : Nat} {r : LogRecord} {e : SpeciesEntry}
    (record : s.record? id = some r) (entry : (s.tables.bank r.bank).entry r.species = some e) :
    s.target l k i id =
      let p := s.pressureInputs l k i (s.tables.bank r.bank) (successor? id s.tracker.queue)
      some (pressureB5 p e r, pressureB6 p e r) := by
  unfold State.target
  rw [record]
  dsimp only
  rw [entry]
  rfl

/-- Stages 1 to 3 as one expression (R103 to R106). -/
theorem fedPressure_eq (e : SpeciesEntry) (temp : Option Int) (feed : Nat) (d : Int) :
    fedPressure e temp feed d = roundDiv (roundDiv (basePressure e d * frozenFactor e temp) 100
      * max 800 (min 1250 (1000 + roundDiv (e.slope * ((feed : Int) - e.vRef)) 100))) 1000 := by
  rw [fedPressure, feedFactor_eq]

/-- Settles O25: OPEN and CLOSE, and the target stage by stage. -/
theorem compositionFollowsTheStations : Obligations.CompositionFollowsTheStations := by
  intro s k i id c l b5 b6 opened x
  refine ⟨fun h => ?_, fun works ready engaged line target => ?_, fun r e record entry => ?_,
    fun r e front back queue other own entered => ?_⟩
  · have none := closeTarget_of_open (i := i) h
    exact ⟨composeChannel_of_open none, by rw [commandOf, none, composeChannel_of_open none]; rfl⟩
  · have close := closeTarget_of_engaged works ready engaged line target
    refine ⟨?_, by rw [commandOf, close, composeChannel_of_close close]; rfl⟩
    rw [composeChannel_of_close close, clampFlag_eq]
    rfl
  · rw [target_of_record record entry]
    exact nofun
  · intro raw p d base frozen feed b3 entry tail enters leaves g b4 trims trim b
    rw [target_of_record (record?_append queue other own) entered, queue, successor?_append other own]
    have place : positionMm l.record.pitch r.length (travelDiff s.travel.t r.b - l.counts.contact.get k) = p :=
      positionMm_eq ..
    have fed : fedPressure e r.temperature s.travel.feed (diameterAt r p) = b3 := fedPressure_eq ..
    have phase : phaseFactor (entryFactor e r.joined p)
        (tailFactor e r.length (match back.head? with | some y => y.joined | none => false) p) = g :=
      phaseFactor_eq ..
    have trimmed : (match (s.tables.bank r.bank).trims with | some t => t.getD (armBit k i) 0 | none => 0) = trim := by
      cases k <;> rfl
    have value : pressureB5 (s.pressureInputs l k i (s.tables.bank r.bank) back.head?) e r = b := by
      unfold pressureB5 State.pressureInputs
      dsimp only
      rw [place, fed, phase, trimmed]
    dsimp only
    rw [pressureB6, value]
    rfl

end Sys2Proof.Machine
end

section
/-! PROOFS. LOG_SCAN (R50 to R54): the lines of R50 and R53 as equations of the Log Tracker, the record that a scan makes,
and the two claims about it. -/

namespace Sys2Proof.Machine

/-! ## A log frame on Port U (R9) -/

theorem validDest {d : Byte} (notZero : d ≠ 0#8) (inRange : ¬ (240 ≤ d.toNat ∧ d.toNat ≤ 253)) :
    invalidDest d = false :=
  Bool.eq_false_iff.2 (mt (invalidDest_iff d).1 (not_or.2 ⟨notZero, inRange⟩))

theorem offerCopy_of_no_line {s : State} (h : s.mode.line = none) (f : Frame) : offerCopy f s = s := by
  unfold offerCopy
  rw [h]

section logFrame

variable {s : State} {dest src : Byte} (valid : invalidDest dest = false) (p : List Byte)

theorem exec_logScan (valid : invalidDest dest = false) (p : List Byte) :
    exec (.logScan dest src p) s = .next (offerCopy (Frame.mk dest src 0x10#8 p) (takeScan p s)) :=
  congrArg Host.Outcome.next (routeU_of_log (f := Frame.mk dest src 0x10#8 p) valid (.inl rfl))

theorem exec_logVoid (valid : invalidDest dest = false) (p : List Byte) :
    exec (.logVoid dest src p) s = .next (offerCopy (Frame.mk dest src 0x11#8 p) (takeVoid p s)) :=
  congrArg Host.Outcome.next (routeU_of_log (f := Frame.mk dest src 0x11#8 p) valid (.inr rfl))

end logFrame

/-- After the Log Tracker has left a state, the copy of its frame is offered (R9). -/
theorem copyOffered_of_exec {c : Instr} {s u : State} {l : Line} {f : Frame} (line : u.mode.line = some l)
    (h : exec c s = .next (offerCopy f u)) : u.CopyOffered l f (fun t => exec c s = .next t) := by
  rw [answers_next h]
  exact offerCopy_follows f line

/-! ## The lines of R50 and R53 -/

section scan

variable {s : State} {l : Line} {p : List Byte}

theorem scanLengthOk_iff : scanLengthOk p = true ↔ 15 ≤ p.length ∧ p.length = 15 + 4 * rd8 p 14 := by
  simp [scanLengthOk]

/-- What R53 rejects: a duplicate, a butt out of order, or one late at eye 1. -/
theorem scanRejected_iff {f : ScanFields} {b : Travel} :
    scanRejected s l f b = true ↔ (∃ r ∈ s.tracker.queue, r.tag = some f.tag)
      ∨ (∃ r, s.tracker.queue.getLast? = some r ∧ travelDiff s.travel.t r.b ≤ travelDiff s.travel.t b)
      ∨ l.counts.eye.one - l.counts.tolerance ≤ travelDiff s.travel.t b := by
  have duplicate : s.tracker.queue.any (fun r => r.tag == some f.tag) = true
      ↔ ∃ r ∈ s.tracker.queue, r.tag = some f.tag := by simp
  have unordered : (match s.tracker.queue.getLast? with
        | some r => decide (s.position r ≤ travelDiff s.travel.t b)
        | none => false) = true
      ↔ ∃ r, s.tracker.queue.getLast? = some r ∧ travelDiff s.travel.t r.b ≤ travelDiff s.travel.t b := by
    cases s.tracker.queue.getLast? with
    | none => simp
    | some y =>
      have judged : decide (s.position y ≤ travelDiff s.travel.t b) = true
          ↔ travelDiff s.travel.t y.b ≤ travelDiff s.travel.t b := decide_eq_true_iff
      simpa using judged
  unfold scanRejected
  dsimp only
  rw [Bool.or_eq_true, Bool.or_eq_true, decide_eq_true_iff, duplicate, or_assoc]
  exact or_congr Iff.rfl (or_congr unordered Iff.rfl)

theorem takeScan_of_no_line (h : s.mode.line = none) : takeScan p s = s.counted .scanRejected := by
  unfold takeScan
  split
  · next line => cases h.symm.trans line
  · rfl

theorem takeScan_of_not_run (h : s.mode.mode ≠ .run) : takeScan p s = s.counted .scanRejected := by
  unfold takeScan
  split
  · next run _ => exact absurd run h
  · rfl

/-- In RUN a scan is judged by its length, by R53 and by the room in the queue, in this order. -/
theorem takeScan_of_run (run : s.mode.mode = .run) (line : s.mode.line = some l) :
    takeScan p s =
      if scanLengthOk p = true then
        if scanRejected s l (scanFields p) (scanButt s l (scanFields p)) = true then s.counted .scanRejected
        else if 16 ≤ s.tracker.queue.length then s.counted .scanOverflow
        else appendRecord l (scanRecord s l (scanFields p) (scanButt s l (scanFields p))) s
      else s.counted .scanRejected := by
  unfold takeScan
  rw [run, line]
  rfl

end scan

/-- Settles O26: the lines of R50 and R53 in their order, the copy offered after each. -/
theorem logScanDiscarded : Obligations.LogScanDiscarded := by
  intro s dest src p l formed b pos duplicate unordered late answers leaves notZero inRange
  have valid := validDest notZero inRange
  have leave : ∀ {u}, s.mode.line = some l → u.mode.line = s.mode.line → takeScan p s = u → leaves u :=
    fun line same h => copyOffered_of_exec (same.trans line) (h ▸ exec_logScan valid p)
  have rejects : scanRejected s l (scanFields p) (scanButt s l (scanFields p)) = true ↔ duplicate ∨ unordered ∨ late :=
    scanRejected_iff
  refine ⟨fun line discarded => leave line rfl ?_,
    fun line run good fresh ordered early many => leave line rfl ?_, fun none => ?_⟩
  · by_cases run : s.mode.mode = .run
    · rw [takeScan_of_run run line]
      by_cases good : formed
      · rw [if_pos (scanLengthOk_iff.2 good), if_pos (rejects.2 ?_)]
        exact (discarded.resolve_left (not_not.2 run)).resolve_left (not_not.2 good)
      · exact if_neg (mt scanLengthOk_iff.1 good)
    · exact takeScan_of_not_run run
  · rw [takeScan_of_run run line, if_pos (scanLengthOk_iff.2 good), if_neg (mt rejects.1 ?_), if_pos many]
    exact fun h => h.elim fresh fun h => h.elim ordered early
  · show exec _ s = _
    rw [exec_logScan valid, takeScan_of_no_line none, offerCopy_of_no_line (by exact none)]

/-! ## The record that a scan makes (R51, R52, R54) -/

/-- A new record at the end of the queue, its joined flag decided against the newest one (R54, R69). -/
theorem appendRecord_eq {s : State} {l : Line} {r : LogRecord} (new : ∀ x ∈ s.tracker.queue, x.id ≠ r.id) :
    appendRecord l r s = { s with
      tracker := { s.tracker with
        queue := s.tracker.queue
          ++ [{ r with joined := decideJoined l.counts.minGap true s.tracker.queue.getLast? r }]
        nextId := s.tracker.nextId + 1 }
      tables := s.tables.setBank r.bank { s.tables.bank r.bank with refs := (s.tables.bank r.bank).refs + 1 } } := by
  have before : predecessor? r.id (s.tracker.queue ++ [r]) = s.tracker.queue.getLast? :=
    predecessor?_append new rfl (by simp)
  have after := updateRecord_append (q := []) new rfl (by simp) fun x =>
    { x with joined := decideJoined l.counts.minGap true s.tracker.queue.getLast? x }
  unfold appendRecord rejoin State.update bindBank State.setBank
  dsimp only
  rw [before, after]

theorem strictlyRising_iff : ∀ {p : List (Nat × Nat)}, strictlyRising p = true ↔ p.Pairwise (fun u v => u.1 < v.1)
  | [] => by simp [strictlyRising]
  | [_] => by simp [strictlyRising]
  | u :: v :: rest => by
    rw [strictlyRising, Bool.and_eq_true, decide_eq_true_iff, strictlyRising_iff, List.pairwise_cons (a := u)]
    refine and_congr_left fun rises => ⟨fun step w hw => ?_, fun all => all v List.mem_cons_self⟩
    obtain rfl | hw := List.mem_cons.1 hw
    · exact step
    · exact step.trans ((List.pairwise_cons.1 rises).1 w hw)

theorem clampNat_eq {lo hi : Nat} (h : lo ≤ hi) (x : Nat) : clampNat lo hi x = max lo (min hi x) := by
  unfold clampNat
  split <;> [skip; split] <;> omega

theorem clampInt_eq_max {lo hi : Int} (h : lo ≤ hi) (x : Int) : clampInt lo hi x = max lo (min hi x) := by
  unfold clampInt
  omega

section profile

variable {length : Nat} {p : List (Nat × Nat)}

/-- A profile of 2 to 8 rising points within the length is kept, its diameters brought into range (R51, R52). -/
theorem keptProfile_of_good (few : 2 ≤ p.length) (many : p.length ≤ 8) (rises : p.Pairwise (fun u v => u.1 < v.1))
    (within : ∀ q ∈ p, q.1 ≤ length) : keptProfile length p = p.map (fun q => (q.1, max 40 (min 1200 q.2))) := by
  have good : (decide (2 ≤ p.length) && decide (p.length ≤ 8) && strictlyRising p
      && p.all (fun q => decide (q.1 ≤ length))) = true := by
    simpa [few, many, strictlyRising_iff.2 rises] using within
  rw [keptProfile, if_pos good]
  exact List.map_congr_left fun q _ => by rw [clampNat_eq (by decide)]

theorem keptProfile_of_bad (bad : p.length < 2 ∨ 8 < p.length ∨ ¬ p.Pairwise (fun u v => u.1 < v.1)
    ∨ ∃ q ∈ p, length < q.1) : keptProfile length p = [] := by
  refine if_neg fun good => ?_
  simp only [Bool.and_eq_true, decide_eq_true_eq, List.all_eq_true, strictlyRising_iff] at good
  obtain ⟨⟨⟨few, many⟩, rises⟩, within⟩ := good
  obtain bad | bad | bad | ⟨q, hq, bad⟩ := bad
  · omega
  · omega
  · exact bad rises
  · have := within q hq
    omega

end profile

/-- The joined flag of a new record against a newest one of known length (R69). -/
theorem decideJoined_known {gap : Int} {r y : LogRecord} {n : LogLength} (unforced : r.joinForced = false)
    (known : y.length = some n) : decideJoined gap true (some y) r = decide (gapTo r y n < gap) := by
  simp only [decideJoined, unforced, known, Bool.false_eq_true, if_false]

theorem decideJoined_unknown {gap : Int} {r y : LogRecord} (unforced : r.joinForced = false)
    (unknown : y.length = none) : decideJoined gap true (some y) r = false := by
  simp only [decideJoined, unforced, unknown, Bool.false_eq_true, if_false, if_true]

/-- The window of the eye at a station in use begins in front of the contact line and, at station 2, behind that of
station 1 (R23, R25). -/
theorem window_of_valid {r : LineRecord} (valid : firstFault (lineConditions r) = none) (k : Station) :
    0 ≤ (lineCounts r).tolerance
    ∧ (lineCounts r).eye.one - (lineCounts r).tolerance ≤ (lineCounts r).eye.get k - (lineCounts r).tolerance
    ∧ (lineCounts r).eye.get k - (lineCounts r).tolerance ≤ (lineCounts r).contact.get k := by
  have tolerance : 0 ≤ (lineCounts r).tolerance := (mmToCounts_bounds (pitch_of_valid valid) r.tolerance).1
  have ok := condition_of_valid valid (n := 10) (v := toleranceOk r) (by simp [lineConditions])
  simp only [toleranceOk, Bool.and_eq_true, decide_eq_true_eq] at ok
  obtain ⟨⟨⟨-, before1⟩, before2⟩, apart⟩ := ok
  have offset : ∀ k, (lineCounts r).eye.get k = (lineCounts r).contact.get k - (lineCounts r).offset.get k := by
    intro k; cases k <;> rfl
  have one := offset .one
  have two := offset .two
  cases k <;> simp only [Pair.get] at one two ⊢ <;> omega

/-- The effective species with an ACTIVE bank (R52). -/
theorem effectiveSpecies_eq {s : State} {bank : BankId} (mark : s.tables.mark = some bank) (l : Line) (species : Byte)
    (confidence : Nat) :
    effectiveSpecies s l species confidence = if species.toNat ≤ 31
        ∧ ((s.tables.bank bank).entry species.toNat).isSome = true ∧ l.record.confidence ≤ confidence
      then species.toNat else 0 := by
  simp only [effectiveSpecies, TableStore.activeLoaded, mark, Bool.and_eq_true, decide_eq_true_eq, and_assoc]

/-- At a station in use a scan stands at its position (R54). -/
theorem scanRecord_inUse {s : State} {l : Line} (f : ScanFields) (b : Travel) {k : Station} (used : l.inUse k = true) :
    (scanRecord s l f b).at k =
      freshStanding l k (scanRecord s l f b).length (travelDiff s.travel.t b) := by
  cases k with
  | one => rfl
  | two => exact if_pos used

theorem scanRecord_unused {s : State} {l : Line} (f : ScanFields) (b : Travel) {k : Station} (used : l.inUse k = false) :
    (scanRecord s l f b).at k = unusedStanding := by
  cases k with
  | one => cases used
  | two => exact if_neg (by simp [used])

/-- Settles O27: the record appended is the scan's, with the flag decided against the newest one. -/
theorem logScanAppendsRecord : Obligations.LogScanAppendsRecord := by
  intro s dest src p l bank b pos mm diameter confidence species points x notZero inRange line long run mark enough
    formed fresh ordered early room numbers
  have valid := validDest notZero inRange
  have rejects : ¬ scanRejected s l (scanFields p) (scanButt s l (scanFields p)) = true := by
    refine mt scanRejected_iff.1 ?_
    rintro (⟨r, hr, same⟩ | ⟨r, newest, behind⟩ | late)
    · exact fresh r hr same
    · exact absurd behind (Int.not_le.2 (ordered r newest))
    · exact absurd late (Int.not_le.2 early)
  let r := scanRecord s l (scanFields p) (scanButt s l (scanFields p))
  have new : ∀ y ∈ s.tracker.queue, y.id ≠ r.id := fun y hy => Nat.ne_of_lt (numbers y hy)
  have taken : takeScan p s = appendRecord l r s := by
    rw [takeScan_of_run run line, if_pos (scanLengthOk_iff.2 ⟨enough, formed⟩), if_neg rejects,
      if_neg (Nat.not_le.2 room)]
  have bound : r.bank = bank := by
    show s.tables.mark.getD .a = bank
    rw [mark]; rfl
  have length : clampNat 1000 l.record.maxLength (rd16 p 7) = mm := clampNat_eq (by omega) _
  have held : r.length = some { counts := roundDiv ((mm : Int) * 1000) l.record.pitch, mm := mm } := by
    rw [← length]; rfl
  have count : points.length = rd8 p 14 := by simp [points]
  refine ⟨{ r with joined := decideJoined l.counts.minGap true s.tracker.queue.getLast? r }, ?_, rfl, rfl, rfl, rfl,
    rfl, rfl, bound, ?_, ?_, ?_, held, ?_, ?_, ?_, ?_, rfl, ?_, ?_, ?_, ?_, ?_, ?_⟩
  · have appended := appendRecord_eq (l := l) new
    have stored : s.tables.setBank r.bank { s.tables.bank r.bank with refs := (s.tables.bank r.bank).refs + 1 }
        = s.tables.setBank bank { x with refs := x.refs + 1 } := by rw [bound]
    rw [stored] at appended
    have executed := exec_logScan (s := s) (src := src) valid p
    rw [taken, appended] at executed
    exact copyOffered_of_exec line executed
  · exact effectiveSpecies_eq mark ..
  · exact clampNat_eq (by decide) _
  · exact clampNat_eq (by decide) _
  · intro warm
    have flag : (scanFields p).hasTemp = true := by simpa [scanFields, rdFlag] using warm
    show scanTemperature s (scanFields p) = _
    rw [scanTemperature, if_pos flag, clampInt_eq_max (by decide)]
    rfl
  · intro cold
    have flag : ¬ (scanFields p).hasTemp = true := by simpa [scanFields, rdFlag] using cold
    exact if_neg flag
  · intro few many rises within
    show keptProfile (clampNat 1000 l.record.maxLength (rd16 p 7)) points = _
    rw [length]
    exact keptProfile_of_good (by omega) (by omega) rises within
  · intro bad
    show keptProfile (clampNat 1000 l.record.maxLength (rd16 p 7)) points = _
    rw [length]
    refine keptProfile_of_bad ?_
    obtain bad | bad | bad | bad := bad
    · exact .inl (by omega)
    · exact .inl (by omega)
    · exact .inr (.inl (by omega))
    · exact .inr (.inr bad)
  · intro empty
    rw [empty]; rfl
  · intro y newest n known
    show decideJoined _ _ _ _ = _
    rw [newest, decideJoined_known rfl known]
    rfl
  · intro y newest unknown
    show decideJoined _ _ _ _ = _
    rw [newest, decideJoined_unknown rfl unknown]
  · intro k
    cases used : l.inUse k with
    | true => exact scanRecord_inUse _ _ used ▸ ⟨rfl, rfl, rfl, rfl, rfl⟩
    | false => exact scanRecord_unused _ _ used ▸ ⟨rfl, rfl, rfl, rfl, rfl⟩
  · intro tolerance k used
    show (r.at k).standsAt _ _ _ _
    rw [scanRecord_inUse _ _ used]
    exact freshStanding_standsAt tolerance
  · intro sound counts k used
    show (r.at k).window = _ ∧ (r.at k).contact = _
    obtain ⟨-, first, before⟩ := window_of_valid sound k
    rw [← counts] at first before
    rw [scanRecord_inUse _ _ used]
    exact ⟨if_pos (lt_of_lt_of_le early first), if_pos (lt_of_lt_of_le early (first.trans before))⟩

end Sys2Proof.Machine
end

section
/-! PROOFS. Removals as the claims put them (R19, R69, R72, R90, R127), and LOG_VOID (R55). -/

namespace Sys2Proof.Machine

/-! ## The stages of a removal -/

theorem dropEngaged_eq (id : Nat) (k : Station) (s : State) :
    dropEngaged id k s = { s with
      arms := if s.arms.stations.get k = .engaged id then s.arms.idled k else s.arms } := by
  unfold dropEngaged
  simp only [beq_iff_eq]
  split
  · exact enterIdle_eq_idled k s
  · rfl

theorem stationsIdle_eq (s : State) : stationsIdle s = { s with arms := (s.arms.idled .one).idled .two } := by
  unfold stationsIdle
  rw [enterIdle_eq_idled, enterIdle_eq_idled]

/-- The end of FINISHING with the last record (R19, R129). -/
theorem endFinishing_eq (s : State) :
    endFinishing s = if s.mode.mode = .finishing ∧ s.tracker.queue = []
      then { s with mode := { s.mode with mode := .standby }, arms := (s.arms.idled .one).idled .two } else s := by
  unfold endFinishing
  simp only [Bool.and_eq_true, beq_iff_eq, List.isEmpty_iff, stationsIdle_eq]

/-- The queue that a removal leaves: with the successor's flag decided anew where the removal asks for it (R69, R72). -/
def leftBy (l : Line) (why : Removal) (front back : List LogRecord) : List LogRecord :=
  front ++ if why.rejoins then rejoinedNext l.counts.minGap front.getLast? back else back

section removal

variable {s : State} {r : LogRecord} {front back : List LogRecord}

theorem distinct_around (distinct : ((front ++ r :: back).map LogRecord.id).Nodup) :
    (∀ x ∈ front, x.id ≠ r.id) ∧ (∀ x ∈ back, x.id ≠ r.id) ∧ ((front ++ back).map LogRecord.id).Nodup := by
  rw [List.map_append, List.map_cons, List.nodup_middle, List.nodup_cons, List.mem_append, not_or] at distinct
  obtain ⟨⟨before, behind⟩, rest⟩ := distinct
  exact ⟨fun x hx e => before (e ▸ List.mem_map_of_mem hx), fun x hx e => behind (e ▸ List.mem_map_of_mem hx),
    by rwa [List.map_append]⟩

/-- Without the record the queue is what stood before and behind it. -/
theorem filter_around (before : ∀ x ∈ front, x.id ≠ r.id) (behind : ∀ x ∈ back, x.id ≠ r.id) :
    (front ++ r :: back).filter (fun x => x.id != r.id) = front ++ back := by
  have keep : ∀ {q : List LogRecord}, (∀ x ∈ q, x.id ≠ r.id) → q.filter (fun x => x.id != r.id) = q :=
    fun h => List.filter_eq_self.2 fun x hx => bne_iff_ne.2 (h x hx)
  rw [List.filter_append, List.filter_cons_of_neg (by simp), keep before, keep behind]

/-- The flag of the record behind decided anew against the one before (R69). -/
theorem rejoin_behind {l : Line} {y : LogRecord} {rest : List LogRecord} (queue : s.tracker.queue = front ++ y :: rest)
    (distinct : ((front ++ y :: rest).map LogRecord.id).Nodup) :
    rejoin l false y.id s = { s with tracker := { s.tracker with
      queue := front ++ rejoinedNext l.counts.minGap front.getLast? (y :: rest) } } := by
  obtain ⟨before, behind, -⟩ := distinct_around distinct
  have updated := updateRecord_append before rfl behind fun x =>
    { x with joined := decideJoined l.counts.minGap false front.getLast? x }
  unfold rejoin State.update
  rw [queue, predecessor?_append before rfl behind, updated, ← rejoined_eq_decideJoined]
  rfl

/-- The record out of the queue and released from its bank. -/
def State.lessRecord (s : State) (r : LogRecord) (left : List LogRecord) : State :=
  { s with
    tracker := { s.tracker with queue := left }
    tables := s.tables.setBank r.bank (s.tables.bank r.bank).released }

/-- The stations and the end of FINISHING after the record has left its queue and its bank (R127 to R129). -/
theorem settled_eq_without (s : State) (r : LogRecord) (left : List LogRecord) :
    endFinishing (examineLockout .two (examineLockout .one
      (dropEngaged r.id .two (dropEngaged r.id .one (s.lessRecord r left))))) = s.without r left := by
  rw [dropEngaged_eq, dropEngaged_eq, examineLockout_eq_unlocked, examineLockout_eq_unlocked, endFinishing_eq]
  rfl

/-- A queued record of distinct numbers removed (R72). -/
theorem removeRecord_eq_without (l : Line) (why : Removal) (queue : s.tracker.queue = front ++ r :: back)
    (distinct : (s.tracker.queue.map LogRecord.id).Nodup) :
    removeRecord l r.id why s = (s.bump? why.counter?).without r (leftBy l why front back) := by
  rw [queue] at distinct
  obtain ⟨before, behind, others⟩ := distinct_around distinct
  have counted : ∀ left, (s.lessRecord r left).bump? why.counter? = (s.bump? why.counter?).lessRecord r left :=
    fun left => by cases why.counter? <;> rfl
  have released : releaseBank { s with tracker := { s.tracker with
      queue := s.tracker.queue.filter (fun x => x.id != r.id) } } r.bank = s.lessRecord r (front ++ back) := by
    rw [queue, filter_around before behind]
    show State.setBank _ _ _ = _
    rw [settle_eq_released]
    rfl
  rw [removeRecord_of_some (record?_append queue before rfl), withdraw, ← settled_eq_without, ← counted]
  dsimp only
  rw [released, queue, successor?_append before rfl]
  cases back with
  | nil =>
    have left : leftBy l why front [] = front ++ [] := by unfold leftBy; cases why.rejoins <;> rfl
    rw [left]
    rfl
  | cons y rest =>
    dsimp only [List.head?_cons]
    unfold leftBy
    cases why.rejoins with
    | true => rw [if_pos rfl, if_pos rfl, rejoin_behind (by rfl) others]; rfl
    | false => rfl

end removal

/-! ## LOG_VOID (R55) -/

section void

variable {s : State} {p : List Byte} {tag : Byte}

theorem takeVoid_of_none (h : voidable p s.tracker.queue = none) : takeVoid p s = s.counted .voidUnmatched := by
  unfold takeVoid
  rw [h]
  rfl

theorem takeVoid_of_no_line (h : s.mode.line = none) : takeVoid p s = s.counted .voidUnmatched := by
  unfold takeVoid
  split
  · next line => cases h.symm.trans line
  · rfl

theorem takeVoid_of_some {l : Line} {r : LogRecord} (line : s.mode.line = some l)
    (h : voidable p s.tracker.queue = some r) : takeVoid p s = removeRecord l r.id .voided s := by
  unfold takeVoid
  rw [h, line]

/-- No record that a payload could name is unconfirmed at station 1 (R55). -/
theorem voidable_eq_none {q : List LogRecord}
    (h : ∀ y ∈ q, ∀ g, p = [g] → y.tag = some g → y.at1.confirmed ≠ .no) : voidable p q = none := by
  unfold voidable
  split
  · next g =>
    refine List.find?_eq_none.2 fun y hy named => ?_
    simp only [Bool.and_eq_true, beq_iff_eq] at named
    exact h y hy g rfl named.1 named.2
  · rfl

/-- The first record of the tag, unconfirmed at station 1, is the one named (R55). -/
theorem voidable_eq_some {front back : List LogRecord} {r : LogRecord} (named : r.tag = some tag)
    (unconfirmed : r.at1.confirmed = .no) (first : ∀ y ∈ front, y.tag ≠ some tag) :
    voidable [tag] (front ++ r :: back) = some r := by
  have none : front.find? (fun y => y.tag == some tag && y.at1.confirmed == .no) = none :=
    List.find?_eq_none.2 fun y hy => by simp [first y hy]
  unfold voidable
  dsimp only
  rw [List.find?_append, none, Option.none_or, List.find?_cons_of_pos (by simp [named, unconfirmed])]

end void

/-- Settles O28: a payload that names nothing, one that names a record, and no line record. -/
theorem logVoidRemovesUnconfirmed : Obligations.LogVoidRemovesUnconfirmed := by
  intro s dest src tag p l front back r answers leaves notZero inRange
  have valid := validDest notZero inRange
  have executed : exec (.logVoid dest src p) s = .next (offerCopy (Frame.mk dest src 0x11#8 p) (takeVoid p s)) :=
    exec_logVoid valid p
  refine ⟨fun line unmatched => ?_, fun line queue distinct named unconfirmed first single => ?_, fun none => ?_⟩
  · rw [takeVoid_of_none (voidable_eq_none unmatched)] at executed
    exact copyOffered_of_exec line executed
  · subst single
    have removed := (removeRecord_logFrame l r.id .voided s).line
    rw [takeVoid_of_some line (queue ▸ voidable_eq_some named unconfirmed first)] at executed
    rw [removeRecord_eq_without l .voided queue distinct] at executed removed
    exact copyOffered_of_exec (removed.trans line) executed
  · rw [takeVoid_of_no_line none, offerCopy_of_no_line (by exact none)] at executed
    exact executed

end Sys2Proof.Machine
end

section
/-! PROOFS. Requests received as frames (R9, R165), and the blocks of Mode Control: LINE_LOAD refused (R24), MODE_SET
(R17, R19, R22) and AMBIENT_SET (R28). -/

namespace Sys2Proof.Machine

/-! ## A REQUEST frame for the own address (R9) -/

theorem routeU_of_request {s : State} (notZero : s.switch.ownAddr ≠ 0#8)
    (inRange : ¬ (240 ≤ s.switch.ownAddr.toNat ∧ s.switch.ownAddr.toNat ≤ 253)) (src : Byte) (payload : List Byte) :
    routeU (Frame.mk s.switch.ownAddr src 0x20#8 payload) s = takeRequest src payload s :=
  (routeU_of_forwardKind (f := Frame.mk s.switch.ownAddr src 0x20#8 payload) (not_or.2 ⟨notZero, inRange⟩)
    (.inl rfl)).trans (routeByDest_own_request rfl rfl)

/-- The two-byte field of two bytes is their concatenation (R178). -/
theorem rd16_pair (x y : Byte) : BitVec.ofNat 16 (rd16 [x, y] 0) = x ++ y := by
  refine BitVec.eq_of_toNat_eq ?_
  have bytes : rd16 [x, y] 0 = x.toNat * 256 + y.toNat := rfl
  rw [BitVec.toNat_append, ← Nat.shiftLeft_add_eq_or_of_lt y.isLt, Nat.shiftLeft_eq, BitVec.toNat_ofNat, bytes]
  have := x.isLt
  have := y.isLt
  omega

/-- Settles O30: the frame is routed to Request Service, which reads the row's operands off the body. -/
theorem requestFramesReachTheirRows : Obligations.RequestFramesReachTheirRows := by
  intro s src num x y image frame notZero inRange
  have taken : ∀ {code body c}, exec c s = .next (takeCode src num code body s) → frame code body = exec c s :=
    fun h => (congrArg Host.Outcome.next (routeU_of_request notZero inRange src _)).trans h.symm
  have ambient : exec (.ambientSet src num (x ++ y)) s = .next (takeCode src num 3#8 [x, y] s) := by
    rw [← rd16_pair]; rfl
  exact ⟨fun _ => taken rfl, taken rfl, taken rfl, taken rfl, taken rfl, fun _ => taken rfl, taken ambient, taken rfl,
    taken rfl, fun _ => taken rfl, fun _ => taken rfl, fun _ => taken rfl, taken rfl, taken rfl, taken rfl, taken rfl,
    taken rfl, taken rfl, taken rfl, taken rfl, fun _ => taken rfl, taken rfl, fun _ _ _ => taken rfl,
    fun _ => taken rfl⟩

/-! ## The conditions of R23, read off the image -/

/-- Each condition of the model's list is the one of the image's bytes. -/
theorem lineConditions_ok (image : List Byte) :
    ∀ c ∈ lineConditions (lineImage image), c.2 = true ↔ LineFieldOk image c.1 := by
  simp only [lineConditions, toleranceOk, inRange_iff, Bool.and_eq_true, decide_eq_true_eq, bne_iff_ne,
    List.forall_mem_cons]
  simp only [LineFieldOk, lineImage, lineCounts, mmToCounts, true_and]
  refine ⟨?_, ?_, ?_, ?_, ?_, ?_, ?_, ?_, ?_, ?_, ?_, ?_, ?_, ?_, ?_, ?_, ?_, ?_, ?_, ?_, ?_, nofun⟩
  all_goals omega

/-- A field that fails is one of the 26 listed. -/
theorem lineFields_listed {image : List Byte} {m : Nat} (h : ¬ LineFieldOk image m) (r : LineRecord) :
    m ∈ (lineConditions r).map Prod.fst := by
  show m ∈ List.range' 1 26
  rw [List.mem_range'_1]
  by_contra outside
  refine h ?_
  unfold LineFieldOk
  dsimp only
  split
  case h_27 => trivial
  all_goals omega

/-- The model's list of conditions names exactly the fields that fail the ones of the image's bytes. -/
theorem lineConditions_iff (image : List Byte) (m : Nat) :
    (m, false) ∈ lineConditions (lineImage image) ↔ ¬ LineFieldOk image m := by
  refine ⟨fun listed ok => ?_, fun fails => ?_⟩
  · exact Bool.false_ne_true ((lineConditions_ok image _ listed).2 ok)
  · obtain ⟨⟨n, v⟩, listed, rfl⟩ := List.mem_map.1 (lineFields_listed fails (lineImage image))
    cases v with
    | false => exact listed
    | true => exact absurd ((lineConditions_ok image _ listed).1 rfl) fails

/-- The fields are listed in rising number. -/
theorem lineConditions_rising (r : LineRecord) : (lineConditions r).Pairwise (fun u v => u.1 ≤ v.1) := by
  have numbers : (lineConditions r).map Prod.fst = List.range' 1 26 := rfl
  exact List.pairwise_map.1 (numbers ▸ List.pairwise_le_range')

theorem lineFault_of_firstFault {image : List Byte} {n : Nat} (h : FirstFault (LineFieldOk image) n) :
    firstFault (lineConditions (lineImage image)) = some n := by
  obtain ⟨fails, before⟩ := h
  exact firstFault_some (lineConditions_rising _) ((lineConditions_iff image n).2 fails)
    fun m low listed => (lineConditions_iff image m).1 listed (before m low)

theorem lineFault_of_ok {image : List Byte} (h : ∀ n, LineFieldOk image n) :
    firstFault (lineConditions (lineImage image)) = none :=
  firstFault_none.2 fun m listed => (lineConditions_iff image m).1 listed (h m)

/-! ## LINE_LOAD -/

section lineLoad

variable {s : State} {image : List Byte}

/-- LINE_LOAD of the right length with a slot free, by the answer of Mode Control (R24, R165). -/
theorem exec_lineLoad_of_slotFree (h : s.slotFree) (len : image.length = 46) (src num : Byte) :
    exec (.lineLoad src num image) s = .next (s.answered (loadLine image s).state src num 1#8
      (loadLine image s).outcome.code (loadLine image s).outcome.detail (loadLine image s).body) := by
  have executed : takeCode src num 1#8 image s = served src num 1#8 (loadLine image) s :=
    if_pos (by simpa using len)
  exact congrArg Host.Outcome.next (executed.trans (served_eq_answered h src num 1#8 (loadLine image)))

theorem loadLine_of_wrongMode (h : s.mode.mode = .run ∨ s.mode.mode = .finishing ∨ s.mode.mode = .tripped) :
    loadLine image s = refuse s .wrongMode := by
  unfold loadLine
  obtain h | h | h := h <;> rw [h]

theorem loadLine_of_fault {n : Nat} (h : s.mode.mode = .unset ∨ s.mode.mode = .standby)
    (fault : firstFault (lineConditions (lineImage image)) = some n) : loadLine image s = refuse s (.badValue n) := by
  unfold loadLine
  obtain h | h := h <;> rw [h] <;> dsimp only <;> rw [fault]

theorem loadLine_of_valid (h : s.mode.mode = .unset ∨ s.mode.mode = .standby)
    (valid : firstFault (lineConditions (lineImage image)) = none) :
    loadLine image s = { state := acceptLine (lineImage image) s, outcome := .done, body := [] } := by
  unfold loadLine
  obtain h | h := h <;> rw [h] <;> dsimp only <;> rw [valid]

end lineLoad

/-- Settles O31: the wrong mode, the first field at fault, and the conditions as the image's bytes have them. -/
theorem lineLoadRefused : Obligations.LineLoadRefused := by
  intro s src num image n free len
  have taken := exec_lineLoad_of_slotFree free len src num
  refine ⟨fun wrong => ?_, fun mode fault => ?_, lineConditions_iff image⟩
  · rw [taken, loadLine_of_wrongMode wrong]; rfl
  · rw [taken, loadLine_of_fault mode (lineFault_of_firstFault fault)]; rfl

/-! ## MODE_SET (R17) -/

section modeSet

variable {s : State}

theorem modeRun_of_standby (h : s.mode.mode = .standby) :
    modeRun s = if s.tables.mark.isSome = true then modeAnswer (enterRun s) .done else modeAnswer s .noActiveBank := by
  unfold modeRun
  rw [h]

theorem modeRun_of_other (h : s.mode.mode ≠ .standby) : modeRun s = modeAnswer s .wrongMode := by
  unfold modeRun
  split
  · next c => exact absurd c h
  · rfl

theorem modeFinish_of_run (h : s.mode.mode = .run) :
    modeFinish s = modeAnswer (endFinishing (s.setMode .finishing)) .done := by
  unfold modeFinish
  rw [h]

theorem modeFinish_of_other (h : s.mode.mode ≠ .run) : modeFinish s = modeAnswer s .wrongMode := by
  unfold modeFinish
  split
  · next c => exact absurd c h
  · rfl

theorem modeStop_of_working (h : s.mode.mode = .run ∨ s.mode.mode = .finishing) :
    modeStop s = modeAnswer (flush (s.setMode .standby)) .done := by
  unfold modeStop
  obtain h | h := h <;> rw [h]

theorem modeStop_of_other (notRun : s.mode.mode ≠ .run) (notFinishing : s.mode.mode ≠ .finishing) :
    modeStop s = modeAnswer s .wrongMode := by
  unfold modeStop
  split
  · next c => exact absurd c notRun
  · next c => exact absurd c notFinishing
  · rfl

theorem modeClear_of_other (h : s.mode.mode ≠ .tripped) : modeClear s = modeAnswer s .wrongMode := by
  unfold modeClear
  split
  · next c => exact absurd c h
  · rfl

theorem modeSet_of_other {n : Nat} (h : n = 0 ∨ 5 ≤ n) : modeSet n s = modeAnswer s (.badValue 1) := by
  unfold modeSet
  split
  case h_5 => rfl
  all_goals omega

/-- What MODE_SET answers, with a slot free (R165). -/
theorem mode_answered (free : s.slotFree) (src num : Byte) {act : State → Answer} {c : Instr}
    (row : exec c s = .next (served src num 2#8 act s)) {t : State} {o : ReplyOutcome} (h : act s = modeAnswer t o) :
    exec c s = .next (s.answered t src num 2#8 o.code o.detail [BitVec.ofNat 8 t.mode.mode.code]) := by
  rw [row, served_eq_answered free src num 2#8 act, h]
  rfl

end modeSet

/-- Settles O35: each argument in a mode it does not take, and no argument at all. -/
theorem modeSetRefused : Obligations.ModeSetRefused := by
  intro s src num arg free wrong
  refine ⟨fun h => ?_, fun h => ?_, fun h g => ?_, fun h => ?_, fun h => ?_⟩
  · exact mode_answered free src num (c := .modeSetRun src num) rfl (modeRun_of_other h)
  · exact mode_answered free src num (c := .modeSetFinish src num) rfl (modeFinish_of_other h)
  · exact mode_answered free src num (c := .modeSetStop src num) rfl (modeStop_of_other h g)
  · exact mode_answered free src num (c := .modeSetClear src num) rfl (modeClear_of_other h)
  · have other : arg.toNat = 0 ∨ 5 ≤ arg.toNat := h.imp_left (congrArg BitVec.toNat)
    exact mode_answered free src num (c := .modeSetBadArgument src num arg) rfl (modeSet_of_other other)

/-- A station at the entry into RUN (R118). -/
theorem stationAtRun_eq (k : Station) (s : State) :
    stationAtRun k s = s.setStation k
      (if s.follows k && (s.inputs.rotors.get k).under then .lockout else s.arms.stations.get k) := by
  unfold stationAtRun
  split
  · rfl
  · simp [State.setStation]

theorem follows_eq {s : State} {l : Line} (works : s.mode.mode.works = true) (line : s.mode.line = some l)
    (k : Station) : s.follows k = l.inUse k := by
  simp only [State.follows, works, line, Bool.true_and]

/-- RUN entered: each station in use is in LOCKOUT under speed and as it was otherwise (R118). -/
theorem enterRun_eq {s : State} {l : Line} (line : s.mode.line = some l) :
    enterRun s = { s with
      mode := { s.mode with mode := .run }
      arms := { s.arms with stations :=
        { one := if true && (s.inputs.rotors.get .one).under then .lockout else s.arms.stations.get .one
          two := if l.inUse .two && (s.inputs.rotors.get .two).under then .lockout else s.arms.stations.get .two } } } := by
  unfold enterRun
  rw [stationAtRun_eq .one, follows_eq (by rfl) (by exact line), stationAtRun_eq .two, follows_eq (by rfl) (by exact line)]
  rfl

/-- A bank of which every record is released at once (R22, R89, R90). -/
theorem settle_of_none (x : Bank) :
    ({ x with refs := 0 } : Bank).settle
      = { x with refs := 0, state := if x.state = .retiring then .idle else x.state } := by
  unfold Bank.settle
  by_cases h : x.state = .retiring <;> simp [h]

/-- Both stations set IDLE (R119, R129). -/
theorem idled_both (a : ArmController) :
    (a.idled .one).idled .two =
      { stations := { one := .idle, two := .idle }
        channels :=
          { one := if a.stations.one = .idle then a.channels.one else a.channels.one.map Channel.restored
            two := if a.stations.two = .idle then a.channels.two else a.channels.two.map Channel.restored } } := by
  obtain ⟨⟨one, two⟩, channels⟩ := a
  by_cases h1 : one = .idle <;> by_cases h2 : two = .idle <;>
    simp [ArmController.idled, Pair.get, Pair.set, h1, h2]

theorem flush_eq (s : State) :
    flush s = { s with
      tracker := { s.tracker with queue := [] }, tables := s.tables.releaseAll
      arms := (s.arms.idled .one).idled .two } :=
  stationsIdle_eq _

/-- FINISHING entered with records queued, and through it STANDBY with none (R19, R129). -/
theorem finishing_entered (s : State) :
    endFinishing (s.setMode .finishing) = if s.tracker.queue = []
      then { s with mode := { s.mode with mode := .standby }, arms := (s.arms.idled .one).idled .two }
      else s.setMode .finishing := by
  rw [endFinishing_eq]
  simp only [State.setMode_mode_mode, State.setMode_tracker, true_and]
  rfl

/-- Settles O33: RUN with and without an ACTIVE bank, FINISH with and without records, and STOP. -/
theorem modeSetRunFinishStop : Obligations.ModeSetRunFinishStop := by
  refine ⟨?_, ?_⟩
  · intro s src num l enters free standby line
    refine ⟨fun bank mark => ?_, fun none => ?_⟩
    · have accepted : modeRun s = modeAnswer (enterRun s) .done := by rw [modeRun_of_standby standby, mark]; rfl
      rw [enterRun_eq line] at accepted
      exact mode_answered free src num (c := .modeSetRun src num) rfl accepted
    · have refused : modeRun s = modeAnswer s .noActiveBank := by rw [modeRun_of_standby standby, none]; rfl
      have answered := mode_answered free src num (c := .modeSetRun src num) rfl refused
      rw [standby] at answered
      exact answered
  · intro s src num freed restored restores idled free
    have idle : (s.arms.idled .one).idled .two = idled := idled_both s.arms
    refine ⟨fun run queued => ?_, fun run empty => ?_, fun working => ?_⟩
    · have entered := modeFinish_of_run run
      rw [finishing_entered, if_neg queued] at entered
      exact mode_answered free src num (c := .modeSetFinish src num) rfl entered
    · have entered := modeFinish_of_run run
      rw [finishing_entered, if_pos empty, idle] at entered
      exact mode_answered free src num (c := .modeSetFinish src num) rfl entered
    · have stopped := modeStop_of_working working
      rw [flush_eq, State.setMode_arms, idle, State.setMode_tables, TableStore.releaseAll, settle_of_none,
        settle_of_none] at stopped
      exact mode_answered free src num (c := .modeSetStop src num) rfl stopped

/-! ## AMBIENT_SET (R28) -/

/-- Settles O36: the value is brought into its range. -/
theorem ambientSetStoresInRange : Obligations.AmbientSetStoresInRange := by
  intro s src num v free z
  have range : clampInt (-500) 500 v.toInt = z := clampInt_eq_max (by decide) _
  have answered := served_eq_answered free src num 3#8 (setAmbient v.toInt)
  rw [setAmbient, range] at answered
  exact congrArg Host.Outcome.next answered

end Sys2Proof.Machine
end

section
/-! PROOFS. The Table Store's requests (R83 to R92): the copy engine, writing, closing, swapping and reading. -/

namespace Sys2Proof.Machine

/-! ## The copy engine (R83, R84) -/

@[simp] theorem TableStore.setBank_setBank (t : TableStore) (k : BankId) (x y : Bank) :
    (t.setBank k x).setBank k y = t.setBank k y := by cases k <;> rfl

section copy

variable {s : State} {c : CopyEngine}

theorem moveNextItem_of_none (h : s.tables.copy = none) : moveNextItem s = s := by
  unfold moveNextItem
  rw [h]

theorem moveNextItem_of_some (h : s.tables.copy = some c) :
    moveNextItem s =
      let t := (s.reach c.due).setBank c.dest (moveItem c.item (s.tables.bank c.source) (s.tables.bank c.dest))
      if c.item < 32 then { t with tables := { t.tables with copy := some { c with item := c.item + 1 } } }
      else copyComplete c.dest t := by
  unfold moveNextItem
  rw [h]
  rfl

/-- With a request in flight the completed copy answers it in the slot it holds (R84, R169). -/
theorem copyComplete_of_inFlight {q : InFlight} (k : BankId) (h : s.requests.inFlight = some q) :
    copyComplete k s = { s with
      tables := { s.tables.setBank k { s.tables.bank k with state := .loading } with copy := none }
      requests := { s.requests with
        inFlight := none
        replies := s.requests.replies ++ [Frame.mk q.dest s.switch.ownAddr 0x21#8
          [q.num, 4#8, 0#8, 0#8, BitVec.ofNat 8 k.code, BitVec.ofNat 8 (s.tables.bank k).loadedCount]] } } := by
  unfold copyComplete State.setBank
  dsimp only
  rw [h]
  rfl

end copy

/-- Settles O38: no copy, an entry moved, and the trim table with the end of the copy. -/
theorem copyItemMovesInOrder : Obligations.CopyItemMovesInOrder := by
  intro s c q src dst later
  refine ⟨fun none => ?_, fun copy entry => ?_, fun copy trims flight => ?_⟩
  · exact congrArg Host.Outcome.next (moveNextItem_of_none none)
  · have moved := moveNextItem_of_some copy
    dsimp only at moved
    rw [if_pos entry, moveItem, if_pos entry] at moved
    exact congrArg Host.Outcome.next moved
  · have moved := moveNextItem_of_some copy
    dsimp only at moved
    rw [if_neg (Nat.not_lt.2 trims), moveItem, if_neg (Nat.not_lt.2 trims),
      copyComplete_of_inFlight (q := q) c.dest (by exact flight)] at moved
    simp only [State.setBank, TableStore.setBank_setBank, TableStore.bank_setBank_same] at moved
    exact congrArg Host.Outcome.next moved

/-! ## The conditions of R77 and R78, read off the images -/

/-- The two conditions on a breakpoint slot are those of its two fields (R77). -/
theorem pointConditions_ok (p : List Byte) {i : Nat} (hi : i < 6) :
    ∀ c ∈ pointConditions p (rd8 p 1) i, c.2 = true ↔ EntryFieldOk p c.1 := by
  simp only [pointConditions, inRange_iff, Bool.and_eq_true, Bool.or_eq_true, decide_eq_true_eq, beq_iff_eq,
    List.forall_mem_cons, List.not_mem_nil, false_imp_iff, implies_true, and_true]
  interval_cases i <;> simp only [EntryFieldOk, Nat.reduceMul, Nat.reduceAdd, Nat.reduceSub, true_or, and_true] <;> constructor <;> omega

/-- Each condition of the model's list is the one of the image's bytes. -/
theorem entryConditions_ok (p : List Byte) : ∀ c ∈ entryConditions p, c.2 = true ↔ EntryFieldOk p c.1 := by
  unfold entryConditions
  rw [List.forall_mem_append, List.forall_mem_append]
  refine ⟨⟨?_, fun c listed => ?_⟩, ?_⟩
  · simp only [inRange_iff, decide_eq_true_eq, List.forall_mem_cons, List.not_mem_nil, false_imp_iff, implies_true,
      and_true]
    simp only [EntryFieldOk, entryImage, true_and]
    omega
  · obtain ⟨i, hi, listed⟩ := List.mem_flatMap.1 listed
    exact pointConditions_ok p (List.mem_range.1 hi) c listed
  · simp only [inRange_iff, Bool.and_eq_true, decide_eq_true_eq, List.forall_mem_cons, List.not_mem_nil, false_imp_iff,
      implies_true, and_true]
    simp only [EntryFieldOk, entryImage, true_and, and_true]
    refine ⟨?_, ?_, ?_, ?_, ?_⟩
    all_goals omega

/-- The fields are listed one after the other. -/
theorem entryConditions_numbers (p : List Byte) : (entryConditions p).map Prod.fst = List.range' 1 25 := rfl

theorem entryConditions_iff (p : List Byte) (m : Nat) : (m, false) ∈ entryConditions p ↔ ¬ EntryFieldOk p m := by
  refine ⟨fun listed ok => ?_, fun fails => ?_⟩
  · exact Bool.false_ne_true ((entryConditions_ok p _ listed).2 ok)
  · have named : m ∈ (entryConditions p).map Prod.fst := by
      rw [entryConditions_numbers, List.mem_range'_1]
      by_contra outside
      refine fails ?_
      unfold EntryFieldOk
      dsimp only
      split
      case h_26 => trivial
      all_goals omega
    obtain ⟨⟨n, v⟩, listed, rfl⟩ := List.mem_map.1 named
    cases v with
    | false => exact listed
    | true => exact absurd ((entryConditions_ok p _ listed).1 rfl) fails

theorem entryFault_of_firstFault {p : List Byte} {n : Nat} (h : FirstFault (EntryFieldOk p) n) :
    firstFault (entryConditions p) = some n := by
  obtain ⟨fails, before⟩ := h
  have rising : (entryConditions p).Pairwise (fun u v => u.1 ≤ v.1) :=
    List.pairwise_map.1 (entryConditions_numbers p ▸ List.pairwise_le_range')
  exact firstFault_some rising ((entryConditions_iff p n).2 fails)
    fun m low listed => (entryConditions_iff p m).1 listed (before m low)

theorem entryFault_of_ok {p : List Byte} (h : ∀ n, EntryFieldOk p n) : firstFault (entryConditions p) = none :=
  firstFault_none.2 fun m listed => (entryConditions_iff p m).1 listed (h m)

/-- A trim is at fault outside its range (R78). -/
theorem trimConditions_iff (p : List Byte) (m : Nat) :
    (m, false) ∈ trimConditions p ↔ 1 ≤ m ∧ m ≤ 10 ∧ ¬ (-800 ≤ rdS16 p (2 * m - 2) ∧ rdS16 p (2 * m - 2) ≤ 800) := by
  have fault : ∀ x : Int, inRange (-800) 800 x = false ↔ ¬ (-800 ≤ x ∧ x ≤ 800) := fun x => by
    rw [← inRange_iff, Bool.not_eq_true]
  simp only [trimConditions, List.mem_map, List.mem_range, Prod.mk.injEq]
  constructor
  · rintro ⟨i, hi, rfl, bad⟩
    exact ⟨by omega, by omega, (fault _).1 bad⟩
  · rintro ⟨low, high, bad⟩
    obtain ⟨i, rfl⟩ := Nat.exists_eq_add_of_le' low
    exact ⟨i, by omega, rfl, (fault _).2 bad⟩

/-! ## TABLE_ENTRY and TABLE_TRIM (R85) -/

section write

variable {s : State} {k : BankId} {p : List Byte}

theorem write_of_copying (target : s.tables.target = k) (h : (s.tables.bank k).state = .copying) :
    writeEntry p s = refuse s .busy ∧ writeTrims p s = refuse s .busy := by
  subst target
  simp only [writeEntry, writeTrims, h, and_self]

theorem write_of_closed (target : s.tables.target = k) (h : (s.tables.bank k).state = .idle
    ∨ (s.tables.bank k).state = .ready ∨ (s.tables.bank k).state = .retiring) :
    writeEntry p s = refuse s .bankNotLoading ∧ writeTrims p s = refuse s .bankNotLoading := by
  subst target
  obtain h | h | h := h <;> simp only [writeEntry, writeTrims, h, and_self]

variable (target : s.tables.target = k) (loading : (s.tables.bank k).state = .loading)

include target loading

theorem writeEntry_of_fault {n : Nat} (fault : firstFault (entryConditions p) = some n) :
    writeEntry p s = refuse s (.badValue n) := by
  subst target
  simp only [writeEntry, loading, fault]

theorem writeTrims_of_fault {n : Nat} (fault : firstFault (trimConditions p) = some n) :
    writeTrims p s = refuse s (.badValue n) := by
  subst target
  simp only [writeTrims, loading, fault]

/-- The bank with an entry image written (R76, R85). -/
def Bank.withEntry (x : Bank) (p : List Byte) : Bank :=
  { x with entries := x.entries.set (rd8 p 0) (some (entryImage p)) }

theorem writeEntry_of_valid (valid : firstFault (entryConditions p) = none) :
    writeEntry p s =
      { state := s.setBank k ((s.tables.bank k).withEntry p), outcome := .done
        body := [BitVec.ofNat 8 k.code, p.getD 0 0#8, BitVec.ofNat 8 ((s.tables.bank k).withEntry p).loadedCount] } := by
  have code : BitVec.ofNat 8 (rd8 p 0) = p.getD 0 0#8 := by simp [rd8]
  subst target
  rw [← code]
  unfold writeEntry
  dsimp only
  split
  · split
    · next fault => cases valid.symm.trans fault
    · rfl
  · next other => cases loading.symm.trans other
  · next other _ => exact absurd loading other

theorem writeTrims_of_valid (valid : firstFault (trimConditions p) = none) :
    writeTrims p s =
      { state := s.setBank k { s.tables.bank k with trims := some (trimImage p) }, outcome := .done
        body := [BitVec.ofNat 8 k.code] } := by
  subst target
  unfold writeTrims
  dsimp only
  split
  · split
    · next fault => cases valid.symm.trans fault
    · rfl
  · next other => cases loading.symm.trans other
  · next other _ => exact absurd loading other

end write

section tableRows

variable {s : State} (free : s.slotFree) {p : List Byte} (src num : Byte)

include free

/-- TABLE_ENTRY of the right length with a slot free, by the answer of the Table Store (R85, R165). -/
theorem exec_tableEntry_of_slotFree (len : p.length = 46) :
    exec (.tableEntry src num p) s = .next (s.answered (writeEntry p s).state src num 5#8
      (writeEntry p s).outcome.code (writeEntry p s).outcome.detail (writeEntry p s).body) := by
  have executed : takeCode src num 5#8 p s = served src num 5#8 (writeEntry p) s := if_pos (by simpa using len)
  exact congrArg Host.Outcome.next (executed.trans (served_eq_answered free src num 5#8 (writeEntry p)))

theorem exec_tableTrim_of_slotFree (len : p.length = 20) :
    exec (.tableTrim src num p) s = .next (s.answered (writeTrims p s).state src num 6#8
      (writeTrims p s).outcome.code (writeTrims p s).outcome.detail (writeTrims p s).body) := by
  have executed : takeCode src num 6#8 p s = served src num 6#8 (writeTrims p) s := if_pos (by simpa using len)
  exact congrArg Host.Outcome.next (executed.trans (served_eq_answered free src num 6#8 (writeTrims p)))

end tableRows

/-- Settles O39: a LOADING target with a valid and an invalid body, and the targets that are not LOADING. -/
theorem tableWritesFollowTargetState : Obligations.TableWritesFollowTargetState := by
  intro s src num entry trims k n x written trimmed refused inRange free target entryLen trimLen
  have target := TableStore.target_eq target
  have entered := exec_tableEntry_of_slotFree free src num entryLen
  have trimmedRow := exec_tableTrim_of_slotFree free src num trimLen
  refine ⟨fun loading => ⟨fun ok => ?_, fun fault => ?_, fun ok => ?_, fun low high bad before => ?_⟩,
    fun copying => ?_, fun closed => ?_⟩
  · rw [entered, writeEntry_of_valid target loading (entryFault_of_ok ok)]; rfl
  · rw [entered, writeEntry_of_fault target loading (entryFault_of_firstFault fault)]; rfl
  · have none : firstFault (trimConditions trims) = none := firstFault_none.2 fun m listed => by
      obtain ⟨low, high, bad⟩ := (trimConditions_iff trims m).1 listed
      exact bad (ok m low high)
    rw [trimmedRow, writeTrims_of_valid target loading none]; rfl
  · have rising : (trimConditions trims).Pairwise (fun u v => u.1 ≤ v.1) := by
      have numbers : (trimConditions trims).map Prod.fst = List.range' 1 10 := rfl
      exact List.pairwise_map.1 (numbers ▸ List.pairwise_le_range')
    have fault : firstFault (trimConditions trims) = some n :=
      firstFault_some rising ((trimConditions_iff trims n).2 ⟨low, high, bad⟩) fun m less listed => by
        obtain ⟨from1, -, bad⟩ := (trimConditions_iff trims m).1 listed
        exact bad (before m from1 less)
    rw [trimmedRow, writeTrims_of_fault target loading fault]; rfl
  · obtain ⟨entry, trim⟩ := write_of_copying (p := entry) target copying
    obtain ⟨-, trim⟩ := write_of_copying (p := trims) target copying
    exact ⟨by rw [entered, entry]; rfl, by rw [trimmedRow, trim]; rfl⟩
  · obtain ⟨entry, -⟩ := write_of_closed (p := entry) target closed
    obtain ⟨-, trim⟩ := write_of_closed (p := trims) target closed
    exact ⟨by rw [entered, entry]; rfl, by rw [trimmedRow, trim]; rfl⟩

/-! ## TABLE_CLOSE and TABLE_SWAP (R86, R87) -/

/-- TABLE_CLOSE by the state of its target (R86). -/
theorem closeBank_eq {s : State} {k : BankId} (target : s.tables.target = k) :
    let x := s.tables.bank k
    let body := [BitVec.ofNat 8 k.code, BitVec.ofNat 8 (x.entries.countP Option.isSome)]
    (x.state = .loading → x.entry 0 ≠ none →
      closeBank s = { state := s.setBank k { x with state := .ready }, outcome := .done, body := body })
    ∧ (x.state = .loading → x.entry 0 = none → closeBank s = { state := s, outcome := .entryMissing, body := body })
    ∧ (x.state = .copying → closeBank s = { state := s, outcome := .busy, body := body })
    ∧ (x.state = .idle ∨ x.state = .ready ∨ x.state = .retiring →
        closeBank s = { state := s, outcome := .bankNotLoading, body := body }) := by
  subst target
  intro x body
  have some_iff : (x.entry 0).isSome = true ↔ x.entry 0 ≠ none := Option.isSome_iff_ne_none
  unfold closeBank
  dsimp only
  refine ⟨fun loading entry => ?_, fun loading entry => ?_, fun copying => ?_, fun closed => ?_⟩ <;> split
  · exact if_pos (some_iff.2 entry)
  · next other => cases loading.symm.trans other
  · next other _ => exact absurd loading other
  · exact if_neg (mt some_iff.1 (not_not.2 entry))
  · next other => cases loading.symm.trans other
  · next other _ => exact absurd loading other
  · next other => cases copying.symm.trans other
  · rfl
  · next other => exact absurd copying other
  · next other => simp [x, other] at closed
  · next other => simp [x, other] at closed
  · rfl

theorem swappedOut_eq (x : Bank) :
    x.swappedOut = { x with state := if x.state = .active then (if x.refs = 0 then .idle else .retiring) else x.state } := by
  unfold Bank.swappedOut
  by_cases h : x.state = .active
  · simp only [beq_iff_eq, if_pos h]
  · simp only [beq_iff_eq, if_neg h]

theorem readyBank_of_ready {t : TableStore} {k : BankId} (ready : (t.bank k).state = .ready)
    (other : (t.bank k.other).state ≠ .ready) : t.readyBank = some k := by
  cases k with
  | a => exact if_pos (beq_iff_eq.2 ready)
  | b => exact (if_neg (mt beq_iff_eq.1 other)).trans (if_pos (beq_iff_eq.2 ready))

theorem readyBank_of_none {t : TableStore} (h : ∀ k, (t.bank k).state ≠ .ready) : t.readyBank = none :=
  (if_neg (mt beq_iff_eq.1 (h .a))).trans (if_neg (mt beq_iff_eq.1 (h .b)))

/-- Settles O40: the close by the target's state, and the swap with and without a READY bank. -/
theorem tableCloseAndSwap : Obligations.TableCloseAndSwap := by
  refine ⟨?_, ?_⟩
  · intro s src num k x closes free target
    obtain ⟨ready, missing, busy, other⟩ := closeBank_eq (TableStore.target_eq target)
    have row : ∀ {t o body}, closeBank s = { state := t, outcome := o, body := body } →
        exec (.tableClose src num) s = .next (s.answered t src num 7#8 o.code o.detail body) := fun h => by
      have answered := served_eq_answered free src num 7#8 closeBank
      rw [h] at answered
      exact congrArg Host.Outcome.next answered
    exact ⟨fun loading entry => row (ready loading entry), fun loading none => row (missing loading none),
      fun copying => row (busy copying), fun closed => row (other closed)⟩
  · intro s src num k ready old left free
    have answered := served_eq_answered free src num 8#8 swapBanks
    refine ⟨fun isReady otherwise => ?_, fun none => ?_⟩
    · have swapped := swappedOut_eq old
      simp only [swapBanks, readyBank_of_ready isReady otherwise] at answered
      rw [swapped] at answered
      exact congrArg Host.Outcome.next answered
    · simp only [swapBanks, readyBank_of_none none] at answered
      exact congrArg Host.Outcome.next answered

end Sys2Proof.Machine
end

section
/-! PROOFS. TABLE_READ (R92): the lines of the request, the images of section 10.6 as bytes, and what has been written
read back. -/

namespace Sys2Proof.Machine

/-! ## The lines of R92 -/

section read

variable {s : State} {bank item : Byte} {k : BankId}

theorem bank?_of_code (h : bank.toNat = k.code) : bank? bank.toNat = some k := by
  rw [h]
  cases k <;> rfl

theorem bank?_of_other {n : Nat} (h : n = 0 ∨ 3 ≤ n) : bank? n = none := by
  unfold bank?
  split
  case h_3 => rfl
  all_goals omega

/-- The head of an image read: the bank and its state (R92). -/
theorem readHead (h : bank.toNat = k.code) (x : Bank) :
    be8 k.code ++ be8 x.state.code = [bank, BitVec.ofNat 8 x.state.code] := by
  rw [← h]
  simp [be8]

theorem readTable_of_no_bank (h : bank = 0#8 ∨ 3 ≤ bank.toNat) : readTable bank item s = refuse s (.badValue 1) := by
  unfold readTable
  rw [bank?_of_other (h.imp_left (congrArg BitVec.toNat))]

theorem trimItem_iff : item.toNat = Config.trimItem ↔ item = 255#8 := by
  rw [BitVec.toNat_eq]
  rfl

/-- An item of a bank: the trim table, no item, or an entry (R92). -/
theorem readTable_of_bank (h : bank.toNat = k.code) :
    readTable bank item s =
      let x := s.tables.bank k
      let head := [bank, BitVec.ofNat 8 x.state.code]
      if item = 255#8 then
        x.trims.elim (refuse s .notLoaded) fun t => { state := s, outcome := .done, body := head ++ trimBytes t }
      else if 32 ≤ item.toNat then refuse s (.badValue 2)
      else (x.entry item.toNat).elim (refuse s .notLoaded)
        fun e => { state := s, outcome := .done, body := head ++ entryBytes item.toNat e } := by
  unfold readTable
  rw [bank?_of_code h]
  simp only [readHead h, beq_iff_eq, trimItem_iff]
  cases (s.tables.bank k).trims <;> cases (s.tables.bank k).entry item.toNat <;> rfl

end read

/-! ## Fields written and read back (R178) -/

section fields

variable (p : List Byte) (i : Nat)

theorem be8_rd8 : be8 (rd8 p i) = [p.getD i 0#8] := by simp [be8, rd8]

theorem be16_rd16 : be16 (rd16 p i) = [p.getD i 0#8, p.getD (i + 1) 0#8] := by
  have high := (p.getD i 0#8).isLt
  have low := (p.getD (i + 1) 0#8).isLt
  simp only [be16, rd16, rd8, List.cons.injEq, and_true]
  constructor <;> refine BitVec.eq_of_toNat_eq ?_ <;> rw [BitVec.toNat_ofNat] <;> omega

theorem beS16_rdS16 : beS16 (rdS16 p i) = [p.getD i 0#8, p.getD (i + 1) 0#8] := by
  have high := (p.getD i 0#8).isLt
  have low := (p.getD (i + 1) 0#8).isLt
  have field : (BitVec.ofInt 16 (rdS16 p i)).toNat = rd16 p i := by
    rw [rdS16, BitVec.ofInt_toInt, BitVec.toNat_ofNat]
    simp only [rd16, rd8]
    omega
  rw [beS16, field, be16_rd16]

end fields

/-- The bytes of an entry image as they are read back: the breakpoint slots above the count as 0 (R76). -/
def readBack (p : List Byte) (j : Nat) : Byte :=
  if 2 + 4 * rd8 p 1 ≤ j ∧ j < 26 then 0#8 else p.getD j 0#8

theorem readBack_outside (p : List Byte) {j : Nat} (h : j < 2 ∨ 26 ≤ j) : readBack p j = p.getD j 0#8 :=
  if_neg (by omega)

/-- The four bytes of a breakpoint slot. -/
theorem readBack_slot (p : List Byte) {i : Nat} (hi : i < 6) :
    (let q := if i < rd8 p 1 then (rd16 p (4 * i + 2), rd16 p (4 * i + 4)) else (0, 0)
     be16 q.1 ++ be16 q.2) = (List.range' (4 * i + 2) 4).map (readBack p) := by
  show _ = [readBack p (4 * i + 2), readBack p (4 * i + 3), readBack p (4 * i + 4), readBack p (4 * i + 5)]
  by_cases used : i < rd8 p 1
  · have kept : ∀ r < 4, readBack p (4 * i + 2 + r) = p.getD (4 * i + 2 + r) 0#8 := fun r hr => if_neg (by omega)
    dsimp only
    rw [if_pos used, be16_rd16, be16_rd16]
    exact congrArg₂ List.cons (kept 0 (by decide)).symm (congrArg₂ List.cons (kept 1 (by decide)).symm
      (congrArg₂ List.cons (kept 2 (by decide)).symm (congrArg₂ List.cons (kept 3 (by decide)).symm rfl)))
  · have cleared : ∀ r < 4, readBack p (4 * i + 2 + r) = 0#8 := fun r hr => if_pos (by omega)
    dsimp only
    rw [if_neg used]
    exact congrArg₂ List.cons (cleared 0 (by decide)).symm (congrArg₂ List.cons (cleared 1 (by decide)).symm
      (congrArg₂ List.cons (cleared 2 (by decide)).symm (congrArg₂ List.cons (cleared 3 (by decide)).symm rfl)))

/-- An entry image read back is the one written, the breakpoint slots above its count as 0 (R76, section 10.6). -/
theorem entryBytes_entryImage (p : List Byte) :
    entryBytes (rd8 p 0) (entryImage p) = (List.range 46).map (readBack p) := by
  have points : (entryImage p).points.flatMap (fun q => be16 q.1 ++ be16 q.2) = (List.range' 2 24).map (readBack p) := by
    have slots : List.range' 2 24 = (List.range 6).flatMap (fun i => List.range' (4 * i + 2) 4) := by decide
    rw [slots, List.map_flatMap, entryImage, imagePoints, List.flatMap_map]
    exact List.flatMap_congr fun i hi => readBack_slot p (List.mem_range.1 hi)
  have parts : List.range 46 = [0, 1] ++ List.range' 2 24 ++ List.range' 26 20 := by decide
  have first : [0, 1].map (readBack p) = [p.getD 0 0#8, p.getD 1 0#8] := by
    simp only [List.map_cons, List.map_nil]
    rw [readBack_outside p (.inl (by decide)), readBack_outside p (.inl (by decide))]
  have last : (List.range' 26 20).map (readBack p) = (List.range' 26 20).map (fun j => p.getD j 0#8) :=
    List.map_congr_left fun j hj => readBack_outside p (.inr (by
      have := List.mem_range'_1.1 hj
      omega))
  have scalars : entryBytes (rd8 p 0) (entryImage p) = [p.getD 0 0#8, p.getD 1 0#8]
      ++ (entryImage p).points.flatMap (fun q => be16 q.1 ++ be16 q.2)
      ++ (List.range' 26 20).map (fun j => p.getD j 0#8) := by
    unfold entryBytes
    generalize (entryImage p).points.flatMap (fun q => be16 q.1 ++ be16 q.2) = slots
    simp only [entryImage, be8_rd8, be16_rd16, beS16_rdS16, List.append_assoc]
    rfl
  rw [parts, List.map_append, List.map_append, ← points, last, first, scalars]

/-- A trim image read back is the one written (R78). -/
theorem trimBytes_trimImage {p : List Byte} (len : p.length = 20) : trimBytes (trimImage p) = p := by
  have pairs : trimBytes (trimImage p) = (List.range 20).map (fun j => p.getD j 0#8) := by
    simp only [trimBytes, trimImage, List.flatMap_map, beS16_rdS16]
    rfl
  rw [pairs, ← len]
  exact List.ext_getElem (by simp) fun j hj hp => by simp [hp]

/-! ## The claim -/

/-- TABLE_READ with a slot free, by the answer of the Table Store (R92, R165). -/
theorem exec_tableRead_of_slotFree {s : State} (free : s.slotFree) (src num : Byte) {bank item : Byte} {o : ReplyOutcome}
    {body : List Byte} (h : readTable bank item s = { state := s, outcome := o, body := body }) :
    exec (.tableRead src num bank item) s = .next (s.answered s src num 9#8 o.code o.detail body) := by
  have answered := served_eq_answered free src num 9#8 (readTable bank item)
  rw [h] at answered
  exact congrArg Host.Outcome.next answered

section lines

variable {s : State} {bank item : Byte} {k : BankId} (h : bank.toNat = k.code)

include h

theorem readTable_of_no_item (high : 32 ≤ item.toNat) (notTrims : item ≠ 255#8) :
    readTable bank item s = refuse s (.badValue 2) := by
  rw [readTable_of_bank h]
  exact (if_neg notTrims).trans (if_pos high)

theorem readTable_of_entry {x : Bank} {e : SpeciesEntry} (held : s.tables.bank k = x) (low : item.toNat < 32)
    (loaded : x.entry item.toNat = some e) :
    readTable bank item s = { state := s, outcome := .done
                              body := [bank, BitVec.ofNat 8 x.state.code] ++ entryBytes item.toNat e } := by
  subst held
  have notTrims : item ≠ 255#8 := fun c => by rw [c] at low; exact absurd low (by decide)
  rw [readTable_of_bank h]
  refine (if_neg notTrims).trans ((if_neg (Nat.not_le.2 low)).trans ?_)
  rw [loaded]
  rfl

theorem readTable_of_no_entry (low : item.toNat < 32) (none : (s.tables.bank k).entry item.toNat = none) :
    readTable bank item s = refuse s .notLoaded := by
  have notTrims : item ≠ 255#8 := fun c => by rw [c] at low; exact absurd low (by decide)
  rw [readTable_of_bank h]
  refine (if_neg notTrims).trans ((if_neg (Nat.not_le.2 low)).trans ?_)
  rw [none]
  rfl

theorem readTable_of_trims {x : Bank} {t : List Int} (held : s.tables.bank k = x) (loaded : x.trims = some t) :
    readTable bank 255#8 s = { state := s, outcome := .done
                               body := [bank, BitVec.ofNat 8 x.state.code] ++ trimBytes t } := by
  subst held
  rw [readTable_of_bank h]
  refine (if_pos rfl).trans ?_
  rw [loaded]
  rfl

theorem readTable_of_no_trims (none : (s.tables.bank k).trims = none) :
    readTable bank 255#8 s = refuse s .notLoaded := by
  rw [readTable_of_bank h]
  refine (if_pos rfl).trans ?_
  rw [none]
  rfl

end lines

/-- Settles O41: the lines of R92, and the two images written and read back. -/
theorem tableReadReturnsImages : Obligations.TableReadReturnsImages := by
  intro s src num bank item k x answers reads head image target free
  have read : ∀ {t : State} {o body}, t.slotFree → readTable bank item t = { state := t, outcome := o, body := body } →
      answers t o.code o.detail body := fun free h => exec_tableRead_of_slotFree free src num h
  refine ⟨fun none => ?_, fun code high notTrims => ?_, fun code low none => ?_, fun code trims none => ?_,
    fun e code low loaded => ?_, fun t code trims loaded => ?_,
    fun p t code aim loading entries len ok named written free => ?_,
    fun p t code aim loading len ok trims written free => ?_⟩
  · exact read free (readTable_of_no_bank none)
  · exact read free (readTable_of_no_item code high notTrims)
  · exact read free (readTable_of_no_entry code low none)
  · subst trims
    exact read free (readTable_of_no_trims code none)
  · have spelled : entryBytes item.toNat e = image e := by
      have first : be8 item.toNat = [item] := by simp [be8]
      simp only [entryBytes, first]
      rfl
    have loadedEntry := readTable_of_entry code rfl low loaded
    rw [spelled] at loadedEntry
    exact read free loadedEntry
  · subst trims
    exact read free (readTable_of_trims code rfl loaded)
  · have valid := entryFault_of_ok ok
    have species : rd8 p 0 < 32 := Nat.lt_succ_of_le (ok 1)
    have named' : item.toNat = rd8 p 0 := by rw [named]; rfl
    rw [exec_tableEntry_of_slotFree (by assumption) src num len,
      writeEntry_of_valid (TableStore.target_eq aim) loading valid] at written
    obtain rfl := Host.Outcome.next.inj written
    have loaded : (x.withEntry p).entry item.toNat = some (entryImage p) := by
      rw [named', Bank.entry, Bank.withEntry, List.getElem?_set_self (by rw [entries]; exact species)]
      rfl
    have readsBack : ∀ t : State, t.tables.bank k = x.withEntry p → readTable bank item t =
        { state := t, outcome := .done, body := head x ++ (List.range 46).map (readBack p) } := fun t held => by
      have h := readTable_of_entry code held (named' ▸ species) loaded
      rwa [named', entryBytes_entryImage] at h
    exact read free (readsBack _ (TableStore.bank_setBank_same ..))
  · subst trims
    have valid : firstFault (trimConditions p) = none := firstFault_none.2 fun m listed => by
      obtain ⟨low, high, bad⟩ := (trimConditions_iff p m).1 listed
      obtain ⟨i, rfl⟩ := Nat.exists_eq_add_of_le' low
      exact bad (ok i (by omega))
    rw [exec_tableTrim_of_slotFree (by assumption) src num len,
      writeTrims_of_valid (TableStore.target_eq aim) loading valid] at written
    obtain rfl := Host.Outcome.next.inj written
    have readsBack : ∀ t : State, t.tables.bank k = { x with trims := some (trimImage p) } → readTable bank 255#8 t =
        { state := t, outcome := .done, body := head x ++ p } := fun t held => by
      have h := readTable_of_trims code held rfl
      rwa [trimBytes_trimImage len] at h
    exact read free (readsBack _ (TableStore.bank_setBank_same ..))

end Sys2Proof.Machine
end

section
/-! PROOFS. ARM_RESTORE (R139, R140), STATUS_READ and LOG_LIST (R172, R173). -/

namespace Sys2Proof.Machine

/-! ## ARM_RESTORE (R139) -/

/-- A station's channel i (0..4) by its number: 1..5 at station 1, 6..10 at station 2. -/
def channelNumber (k : Station) (i : Nat) : Nat := match k with | .one => i + 1 | .two => i + 6

theorem channelPlace_number {k : Station} {i : Nat} (hi : i < 5) : channelPlace (channelNumber k i) = (k, i) := by
  cases k
  · exact if_pos (by simp only [channelNumber]; omega)
  · exact if_neg (by simp only [channelNumber]; omega)

/-- The state with one channel put in the place of another. -/
def State.putChannel (s : State) (k : Station) (i : Nat) (d : Channel) : State :=
  { s with arms := { s.arms with channels := s.arms.channels.set k ((s.arms.channels.get k).set i d) } }

theorem putChannel_same {s : State} {k : Station} {i : Nat} {c : Channel}
    (channel : (s.arms.channels.get k)[i]? = some c) : s.putChannel k i c = s := by
  have same : (s.arms.channels.get k).set i c = s.arms.channels.get k := by
    obtain ⟨hi, rfl⟩ := List.getElem?_eq_some_iff.1 channel
    exact List.set_getElem_self hi
  rw [State.putChannel, same, Pair.set_get]

section restore

variable {s : State} {ch : Byte} {k : Station} {i : Nat} {c : Channel}

theorem armRestore_of_none (h : ch = 0#8 ∨ 11 ≤ ch.toNat) (two : s.arms.channels.two.length = 5) :
    armRestore ch s = { state := s, outcome := .badValue 1, body := [ch, 255#8, 255#8] } := by
  have none : (if ch.toNat = 0 then none else s.channel? ch.toNat) = Option.none := by
    obtain zero | high := h
    · rw [zero]; rfl
    · have place : channelPlace ch.toNat = (.two, ch.toNat - 6) := if_neg (by omega)
      rw [if_neg (by omega), State.channel?, place]
      exact List.getElem?_eq_none (by show s.arms.channels.two.length ≤ _; omega)
  unfold armRestore
  rw [none]

variable (hi : i < 5) (number : ch.toNat = channelNumber k i) (channel : (s.arms.channels.get k)[i]? = some c)

include hi number

theorem restoreAnswer_eq (d : Channel) (o : ReplyOutcome) :
    restoreAnswer ch s d o = { state := s.putChannel k i d, outcome := o
                               body := [ch, BitVec.ofNat 8 d.state.code, if d.pendingRestore then 1#8 else 0#8] } := by
  have flag : be8 (bitAt 0 d.pendingRestore) = [if d.pendingRestore then 1#8 else 0#8] := by
    cases d.pendingRestore <;> rfl
  unfold restoreAnswer restoreBody State.onChannel State.onChannels
  rw [flag, number, channelPlace_number hi]
  dsimp only
  rw [← List.set_eq_modify]
  rfl

include channel

theorem armRestore_of_channel : armRestore ch s = restoreChannel ch s c := by
  have there : (if ch.toNat = 0 then none else s.channel? ch.toNat) = some c := by
    have positive : ch.toNat ≠ 0 := by rw [number]; cases k <;> simp [channelNumber]
    rw [if_neg positive, State.channel?, number, channelPlace_number hi]
    exact channel
  unfold armRestore
  rw [there]

end restore

/-- Settles O42: the numbers that are no channel, and the lines of R139. -/
theorem armRestoreByTheTable : Obligations.ArmRestoreByTheTable := by
  intro s src num ch k i c put replies restored there atOnce free one two
  have answered : ∀ {t o body}, armRestore ch s = { state := t, outcome := o, body := body } →
      exec (.armRestore src num ch) s = .next (s.answered t src num 10#8 o.code o.detail body) := fun h => by
    have taken := served_eq_answered free src num 10#8 (armRestore ch)
    rw [h] at taken
    exact congrArg Host.Outcome.next taken
  have restores : ∀ {d o}, there → restoreChannel ch s c = restoreAnswer ch s d o →
      replies (put d) d o.code o.detail := fun ⟨hi, number, channel⟩ h => by
    have number : ch.toNat = channelNumber k i := by rw [number]; cases k <;> rfl
    exact answered ((armRestore_of_channel hi number channel).trans (h.trans (restoreAnswer_eq hi number _ _)))
  have keeps : there → put c = s := fun ⟨_, _, channel⟩ => putChannel_same channel
  have byState : s.mode.mode ≠ .unset → restoreChannel ch s c = match c.state with
      | .disabled => restoreAnswer ch s c .channelDisabled
      | .ready => restoreAnswer ch s c .done
      | .isolated => restoreIsolated ch s c := fun set => by
    unfold restoreChannel
    exact if_neg (by simpa using set)
  have immediate : there → (s.restoresAtOnce ch.toNat = true ↔ atOnce) := fun ⟨hi, number, _⟩ => by
    have number : ch.toNat = channelNumber k i := by rw [number]; cases k <;> rfl
    simp only [State.restoresAtOnce, number, channelPlace_number hi, Bool.or_eq_true, beq_iff_eq, or_assoc]
    rfl
  refine ⟨fun none => ?_, fun at_ unset => ?_, fun at_ set disabled => ?_, fun at_ set ready => ?_,
    fun at_ set isolated now => ?_, fun at_ set isolated later => ?_⟩
  · exact answered (armRestore_of_none none two)
  · have refused : restoreChannel ch s c = restoreAnswer ch s c .wrongMode := by
      unfold restoreChannel
      exact if_pos (by simpa using unset)
    have replied := restores at_ refused
    rwa [keeps at_] at replied
  · have replied := restores at_ ((byState set).trans (by rw [disabled]))
    rwa [keeps at_] at replied
  · have replied := restores at_ ((byState set).trans (by rw [ready]))
    rwa [keeps at_] at replied
  · exact restores at_ ((byState set).trans (by rw [isolated]; exact if_pos ((immediate at_).2 now)))
  · exact restores at_ ((byState set).trans (by rw [isolated]; exact if_neg (mt (immediate at_).1 later)))

/-! ## STATUS_READ (R172, section 10.8) -/

/-- The current log of a station: the queued record it is ENGAGED with. -/
def State.currentLog (s : State) (k : Station) : Option LogRecord :=
  match s.arms.stations.get k with
  | .engaged id => s.tracker.queue.find? (fun r => r.id == id)
  | _ => none

/-- A station's state byte and the tag of its current log (section 10.8). -/
theorem stationBytes_eq (s : State) (k : Station) :
    stationBytes s k = [BitVec.ofNat 8 ((s.arms.stations.get k).code
        + bitAt 7 ((s.currentLog k).any (fun r => r.origin == .synthetic))), ((s.currentLog k).bind LogRecord.tag).getD 0#8] := by
  unfold stationBytes State.currentLog
  cases s.arms.stations.get k with
  | idle => rfl
  | lockout => rfl
  | engaged id =>
    have found : s.record? id = s.tracker.queue.find? (fun r => r.id == id) := rfl
    dsimp only
    rw [← found]
    cases s.record? id <;> rfl

theorem nodeBytes_eq (n : Node) : nodeBytes n = [if n.silent then 1#8 else 0#8, BitVec.ofNat 8 n.missing] := by
  unfold nodeBytes
  cases n.silent <;> rfl

/-- The two speed bytes of a rotor are its speed where two bytes hold it (section 10.8). -/
theorem speedBytes_ok (n : Nat) : (speedBytes n).length = 2 ∧ (n ≤ 65535 → speedBytes n = be16 n) := by
  unfold speedBytes
  refine ⟨?_, fun h => if_pos h⟩
  split <;> rfl

theorem channelBytes_length (c : Channel) : (channelBytes c).length = 3 := rfl

/-- Blocks of one length each. -/
theorem flatMap_length_of_const {α : Type} {f : α → List Byte} {n : Nat} (h : ∀ x, (f x).length = n) (xs : List α) :
    (xs.flatMap f).length = n * xs.length := by
  rw [List.length_flatMap, funext h, List.map_const', List.sum_replicate, smul_eq_mul, Nat.mul_comm]

/-- The STATUS body is 64 bytes long (section 10.8). -/
theorem statusBody_length {s : State} (one : s.arms.channels.one.length = 5) (two : s.arms.channels.two.length = 5) :
    (statusBody s).length = 64 := by
  have stations : ∀ k, (stationBytes s k).length = 2 := fun k => by rw [stationBytes_eq]; rfl
  have rotors : ∀ r, (rotorBytes r).length = 5 := fun r => by
    rw [rotorBytes, List.length_append, (speedBytes_ok r.speed).1]; rfl
  have nodes : ∀ n, (nodeBytes n).length = 2 := fun _ => rfl
  have byte : ∀ n, (be8 n).length = 1 := fun _ => rfl
  have word : ∀ n, (be16 n).length = 2 := fun _ => rfl
  have signed : ∀ z, (beS16 z).length = 2 := fun _ => rfl
  unfold statusBody
  simp only [List.length_append, stations, rotors, nodes, byte, word, signed,
    flatMap_length_of_const channelBytes_length, one, two]

/-- Settles O43: the bytes of the two reports, and the codes of their fields. -/
theorem reportsChangeNothing : Obligations.ReportsChangeNothing := by
  refine ⟨?_, rfl, rfl, rfl, rfl, fun _ => rfl, rfl, rfl, rfl⟩
  intro s src num free one two bit rotor speedOk current station channel node eyes rotors standing summary
  refine ⟨⟨speedBytes rotors.one.speed, speedBytes rotors.two.speed, speedBytes_ok _, speedBytes_ok _, ?_⟩, ?_⟩
  · intro body
    have bytes : statusBody s = body := by
      unfold statusBody
      rw [stationBytes_eq, stationBytes_eq, nodeBytes_eq, nodeBytes_eq]
      rfl
    rw [← bytes]
    exact ⟨congrArg Host.Outcome.next (served_eq_answered free src num 11#8 readStatus), statusBody_length one two⟩
  · exact ⟨congrArg Host.Outcome.next (served_eq_answered free src num 12#8 listLogs),
      by rw [List.length_cons, flatMap_length_of_const (f := summary) (n := 7) (fun _ => rfl), Nat.add_comm]⟩

end Sys2Proof.Machine
end

section
/-! PROOFS. The Travel Unit: the feed speed at the end of a window (O50), and what an illegal transition and the
trip level do where no mode changes (O48). -/

namespace Sys2Proof.Machine

/-! ## Speed windows -/

theorem endSpeedWindow_of_line {s : State} {l : Line} (line : s.mode.line = some l) {v : Nat}
    (speed : feedSpeed s.travel.net l.record.pitch l.record.speedWindow = v) :
    exec .speedWindowEnd s = .next { s with
      now := max s.now (s.travel.windowStart + l.record.speedWindow * 1000)
      travel := { s.travel with feed := v, windowStart := s.travel.windowStart + l.record.speedWindow * 1000
                                net := 0, illegal := 0 } } := by
  subst speed
  refine congrArg Host.Outcome.next ?_
  simp only [endSpeedWindow, State.reach, TravelUnit.endWindow, windowLength, line]

theorem endSpeedWindow_of_no_line {s : State} (line : s.mode.line = none) :
    exec .speedWindowEnd s = .next { s with
      now := max s.now (s.travel.windowStart + 100000)
      travel := { s.travel with windowStart := s.travel.windowStart + 100000, net := 0, illegal := 0 } } := by
  refine congrArg Host.Outcome.next ?_
  simp only [endSpeedWindow, State.reach, TravelUnit.endWindow, windowLength, line, Config.defaultWindow]

/-- No feed forward, no speed (R35). -/
theorem feedSpeed_of_nonpos {net : Int} (h : net ≤ 0) (p w : Nat) : feedSpeed net p w = 0 := by
  rw [feedSpeed, Int.toNat_of_nonpos h, Nat.zero_mul, Nat.zero_div, Nat.zero_min]

/-- The speed is the largest whole number whose way in the window is not above the distance fed (R35). -/
theorem feedSpeed_of_fits {net : Int} {p w v : Nat} (fits : v * w ≤ net.toNat * p)
    (largest : net.toNat * p < (v + 1) * w) (top : v ≤ 4000) : feedSpeed net p w = v := by
  rw [feedSpeed, Nat.div_eq_of_lt_le fits largest, Nat.min_eq_left top]

/-- The speed is held at 4000 (R35). -/
theorem feedSpeed_of_fast {net : Int} {p w : Nat} (window : 0 < w) (fast : 4000 * w ≤ net.toNat * p) :
    feedSpeed net p w = 4000 :=
  Nat.min_eq_right ((Nat.le_div_iff_mul_le window).2 fast)

theorem setDwell_of_line {s : State} {l : Line} (line : s.mode.line = some l) :
    exec .dwellSet s = .next { s with
      now := max s.now (s.travel.stillSince + l.record.dwellTime * 1000), travel := { s.travel with dwell := true } } := by
  refine congrArg Host.Outcome.next ?_
  simp only [setDwell, State.reach, line]

theorem setDwell_of_no_line {s : State} (line : s.mode.line = none) : exec .dwellSet s = .next s := by
  refine congrArg Host.Outcome.next ?_
  simp only [setDwell, line]

/-- Settles O50. -/
theorem speedWindowsAndDwell : Obligations.SpeedWindowsAndDwell := by
  intro s l v p w u due ends
  exact ⟨fun line back => endSpeedWindow_of_line line (feedSpeed_of_nonpos back _ _),
    fun line _ fits largest top => endSpeedWindow_of_line line (feedSpeed_of_fits fits largest top),
    fun line _ window fast => endSpeedWindow_of_line line (feedSpeed_of_fast window fast),
    endSpeedWindow_of_no_line, setDwell_of_line, setDwell_of_no_line⟩

/-! ## Illegal transitions and the trip level -/

/-- The encoder lines' new levels (R30). -/
def State.withLevels (s : State) (a b : Bool) : State :=
  { s with travel := { s.travel with lineA := a, lineB := b } }

/-- A change of both lines at once is illegal (R30). -/
theorem transition_of_both {x y a b : Bool} (ha : a ≠ x) (hb : b ≠ y) : transition x y a b = .illegal := by
  cases x <;> cases y <;> simp_all [transition]

theorem transition_self (a b : Bool) : transition a b a b = .same := by
  cases a <;> cases b <;> rfl

theorem encoderChange_of_both {s : State} {a b : Bool} (ha : a ≠ s.travel.lineA) (hb : b ≠ s.travel.lineB) :
    encoderChange a b s = illegalTransition (s.withLevels a b) := by
  simp only [encoderChange, transition_of_both ha hb, State.withLevels]

/-- A counter held at its top, however far below or at it (section 3.2). -/
theorem riseTo_eq {top n : Nat} (h : n ≤ top) : riseTo top n = min top (n + 1) := by
  unfold riseTo
  split <;> omega

/-- An illegal transition that fails nothing is no trip (R32, R33). -/
theorem illegalTransition_of_failed_same {s : State} (h : s.travel.disturb.failed = true → s.travel.failed = true) :
    illegalTransition s = { s with travel := s.travel.disturb } := by
  refine if_neg fun c => ?_
  obtain ⟨fails, ok⟩ := Bool.and_eq_true_iff.1 c
  simp [h fails] at ok

/-- The one that fails the encoder is a trip (R21). -/
theorem illegalTransition_of_fails {s : State} (fails : s.travel.disturb.failed = true)
    (ok : s.travel.failed = false) : illegalTransition s = trip .encoder { s with travel := s.travel.disturb } :=
  if_pos (by simp [fails, ok])

theorem disturb_of_failed {u : TravelUnit} (failed : u.failed = true) (h : u.illegal ≤ 255) :
    u.disturb = { u with illegal := min 255 (u.illegal + 1), disturbed := true } := by
  simp only [TravelUnit.disturb, riseTo_eq h, failed, if_true]

theorem disturb_of_few {u : TravelUnit} (ok : u.failed = false) (h : u.illegal ≤ 255)
    (few : min 255 (u.illegal + 1) < 8) : u.disturb = { u with illegal := min 255 (u.illegal + 1) } := by
  simp only [TravelUnit.disturb, riseTo_eq h, ok, Bool.false_eq_true, if_false, Config.illegalLimit,
    if_neg (Nat.not_le.2 few)]

theorem disturb_of_limit {u : TravelUnit} (ok : u.failed = false) (h : u.illegal ≤ 255)
    (limit : 8 ≤ min 255 (u.illegal + 1)) :
    u.disturb = { u with illegal := min 255 (u.illegal + 1), failed := true, disturbed := false } := by
  simp only [TravelUnit.disturb, riseTo_eq h, ok, Bool.false_eq_true, if_false, Config.illegalLimit, if_pos limit]

theorem trip_of_still {s : State} (still : s.mode.mode = .unset ∨ s.mode.mode = .tripped) (c : TripCause) :
    trip c s = s := by
  obtain unset | tripped := still
  · simp only [trip, unset]
  · simp only [trip, tripped]

theorem tripLevel_of_same {s : State} {a : Bool} (h : s.inputs.trip = a) : tripLevel a s = s :=
  if_pos (by rw [h]; exact beq_self_eq_true a)

theorem tripLevel_of_rise {s : State} (h : s.inputs.trip = false) :
    tripLevel true s = trip .tripInput { s with inputs := { s.inputs with trip := true } } := by
  simp [tripLevel, h]

theorem tripLevel_of_fall {s : State} (h : s.inputs.trip = true) :
    tripLevel false s = { s with inputs := { s.inputs with trip := false } } := by
  simp [tripLevel, h]

/-- Settles O48. -/
theorem illegalTransitionsAndTripLevel : Obligations.IllegalTransitionsAndTripLevel := by
  intro s a b n levels both still level
  have encoder : both → exec (.encoderTransition a b) s = .next (illegalTransition (s.withLevels a b)) :=
    fun ⟨ha, hb, _⟩ => congrArg Host.Outcome.next (encoderChange_of_both ha hb)
  refine ⟨fun h failed => ?_, fun h ok few => ?_, fun h ok limit quiet => ?_, fun h => ?_, fun h => ?_, fun h quiet => ?_⟩
  · rw [encoder h, illegalTransition_of_failed_same (s := s.withLevels a b) fun _ => failed,
      disturb_of_failed (by exact failed) (by exact h.2.2)]
    rfl
  · have few := disturb_of_few (u := (s.withLevels a b).travel) ok h.2.2 few
    rw [encoder h, illegalTransition_of_failed_same (by rw [few]; exact id), few]
    rfl
  · have limit := disturb_of_limit (u := (s.withLevels a b).travel) ok h.2.2 limit
    rw [encoder h, illegalTransition_of_fails (s := s.withLevels a b) (by rw [limit]) ok, trip_of_still (by exact quiet), limit]
    rfl
  · exact congrArg Host.Outcome.next (tripLevel_of_same h)
  · exact congrArg Host.Outcome.next (tripLevel_of_fall h)
  · exact congrArg Host.Outcome.next ((tripLevel_of_rise h).trans (trip_of_still (by exact quiet) _))

end Sys2Proof.Machine
end

section
/-! PROOFS. Rotors: the pulses and the 2000 ms timeout (O51), and the change of the under-speed flag with LOCKOUT
(O52). -/

namespace Sys2Proof.Machine

/-! ## A rotor replaced -/

/-- A rotor replaced, with nothing else. -/
def State.withRotor (s : State) (k : Station) (r : Rotor) : State :=
  { s with inputs := { s.inputs with rotors := s.inputs.rotors.set k r } }

theorem Line.inUse_iff (l : Line) (k : Station) : l.inUse k = true ↔ k = .one ∨ l.record.stations = 2 := by
  cases k <;> simp [Line.inUse]

theorem follows_of_works {s : State} {l : Line} {k : Station} (works : s.mode.mode.works = true)
    (line : s.mode.line = some l) (used : k = .one ∨ l.record.stations = 2) : s.follows k = true :=
  (follows_eq works line k).trans ((l.inUse_iff k).2 used)

theorem follows_of_no_line {s : State} (line : s.mode.line = none) (k : Station) : s.follows k = false := by
  simp only [State.follows, line, Bool.and_false]

theorem not_follows_of {s : State} {l : Line} {k : Station} (line : s.mode.line = some l)
    (h : s.mode.mode.works = false ∨ (k = .two ∧ l.record.stations ≠ 2)) : s.follows k = false := by
  obtain idle | ⟨rfl, one⟩ := h
  · simp only [State.follows, idle, Bool.false_and]
  · simp [State.follows, line, Line.inUse, one]

section setRotor

variable {s : State} {k : Station} {r : Rotor}

theorem setRotor_of_same (h : r.under = (s.inputs.rotors.get k).under) : setRotor k r s = s.withRotor k r := by
  unfold setRotor underChanged
  simp only [Pair.get_set_same, h, Bool.and_not_self, Bool.false_eq_true, if_false]
  rfl

/-- The setting of the flag (R126). -/
theorem setRotor_of_set (set : r.under = true) (was : (s.inputs.rotors.get k).under = false) :
    setRotor k r s = underSet k (s.withRotor k r) := by
  unfold setRotor underChanged
  simp only [Pair.get_set_same, set, was, Bool.not_false, Bool.and_true, if_true]
  rfl

/-- The clearing of the flag (R127). -/
theorem setRotor_of_cleared (clear : r.under = false) (was : (s.inputs.rotors.get k).under = true) :
    setRotor k r s = examineLockout k (s.withRotor k r) := by
  unfold setRotor underChanged
  simp only [Pair.get_set_same, clear, was, Bool.false_and, Bool.false_eq_true, if_false, Bool.not_false,
    Bool.and_true, if_true]
  rfl

theorem underSet_of_not_follows (h : s.follows k = false) : underSet k s = s :=
  if_neg (by simp [h])

theorem examineLockout_of_not_follows (h : s.follows k = false) : examineLockout k s = s :=
  if_neg (by simp [h])

/-- A station that does not follow its machine leaves a change of the flag at that (R118). -/
theorem setRotor_of_not_follows (h : s.follows k = false) : setRotor k r s = s.withRotor k r := by
  have still : (s.withRotor k r).follows k = false := h
  cases set : r.under with
  | true =>
    cases was : (s.inputs.rotors.get k).under with
    | true => exact setRotor_of_same (set.trans was.symm)
    | false => rw [setRotor_of_set set was, underSet_of_not_follows still]
  | false =>
    cases was : (s.inputs.rotors.get k).under with
    | true => rw [setRotor_of_cleared set was, examineLockout_of_not_follows still]
    | false => exact setRotor_of_same (set.trans was.symm)

/-- The flag kept, the mode not working or the station not in use: nothing but the rotor changes. -/
theorem setRotor_of_quiet {l : Line} {u : Bool} (line : s.mode.line = some l) (flag : r.under = u)
    (h : u = (s.inputs.rotors.get k).under ∨ s.mode.mode.works = false ∨ (k = .two ∧ l.record.stations ≠ 2)) :
    setRotor k r s = s.withRotor k r := by
  obtain same | idle := h
  · exact setRotor_of_same (flag.trans same)
  · exact setRotor_of_not_follows (not_follows_of line idle)

end setRotor

/-! ## Pulses and the timeout (R38, R39) -/

section pulses

variable {s : State} {k : Station} {edge t : Nat}

theorem pulseRotor_of_no_ref (h : (s.inputs.rotors.get k).ref = none) :
    pulseRotor k edge s = (s.reach (edge + 50)).withRotor k { s.inputs.rotors.get k with ref := some edge } := by
  unfold pulseRotor
  rw [h]
  rfl

theorem pulseRotor_of_early (h : (s.inputs.rotors.get k).ref = some t) (early : edge ≤ t) :
    pulseRotor k edge s = s := by
  unfold pulseRotor
  rw [h]
  exact if_pos early

/-- A pulse after the silence finds the timeout past (R39; log 18). -/
theorem pulseRotor_of_late (h : (s.inputs.rotors.get k).ref = some t) (late : t + 2000000 < edge) :
    pulseRotor k edge s = (referencePulse k edge (silenceRotor k s)).reach (edge + 50) := by
  unfold pulseRotor
  rw [h]
  dsimp only
  rw [if_neg (by omega), if_pos (by unfold Config.rotorSilence; omega)]
  rfl

theorem silenceRotor_of_no_ref (h : (s.inputs.rotors.get k).ref = none) : silenceRotor k s = s := by
  unfold silenceRotor
  rw [h]

theorem silenceRotor_of_ref (h : (s.inputs.rotors.get k).ref = some t) :
    silenceRotor k s = setRotor k ((s.inputs.rotors.get k).silenced s.mode.line) (s.reach (t + 2000000)) := by
  unfold silenceRotor
  rw [h]
  rfl

/-- A rotor at rest is under speed, whatever the flag was (R40). -/
theorem silenced_of_line {l : Line} (least : 0 < l.record.underSpeed) (r : Rotor) :
    r.silenced (some l) = { ref := none, period := 0, speed := 0, under := true } := by
  simp only [Rotor.silenced, judgeUnder, if_pos least]

end pulses

/-- Settles O51. -/
theorem rotorPulsesAndTimeout : Obligations.RotorPulsesAndTimeout := by
  intro s k edge t n l r set under fits quiet
  refine ⟨fun none => ?_, fun ref early => ?_, fun ref after within line exact quiet => ?_, fun ref after within line => ?_,
    fun none => ?_, fun ref line least quiet => ?_, fun ref line => ?_, fun ref late => ?_⟩
  · exact congrArg Host.Outcome.next (pulseRotor_of_no_ref none)
  · exact congrArg Host.Outcome.next (pulseRotor_of_early ref early)
  · have speed : rotorSpeed (some l) (edge - t) = n := Nat.div_eq_of_lt_le exact.1 exact.2
    have pulsed : r.pulsed s.mode.line t edge = { ref := some edge, period := edge - t, speed := n, under := under } := by
      simp only [Rotor.pulsed, line, speed]
      rfl
    refine congrArg Host.Outcome.next ((pulseRotor_of_period ref after within).trans ?_)
    rw [pulsed]
    exact setRotor_of_quiet line rfl quiet
  · refine congrArg Host.Outcome.next ((pulseRotor_of_period ref after within).trans ?_)
    rw [line]
    exact setRotor_of_not_follows (follows_of_no_line line k)
  · exact congrArg Host.Outcome.next (silenceRotor_of_no_ref none)
  · refine congrArg Host.Outcome.next ((silenceRotor_of_ref ref).trans ?_)
    rw [line, silenced_of_line least]
    exact setRotor_of_quiet line rfl quiet
  · refine congrArg Host.Outcome.next ((silenceRotor_of_ref ref).trans ?_)
    rw [line]
    exact setRotor_of_not_follows (follows_of_no_line line k)
  · exact ⟨_, rfl, congrArg Host.Outcome.next (pulseRotor_of_late ref late)⟩

/-! ## Under speed and LOCKOUT (R125 to R127) -/

section lockout

variable {s : State} {k : Station} {x : LogRecord} {front back : List LogRecord}

theorem underSet_of_unengaged (follows : s.follows k = true) (h : ∀ id, s.arms.stations.get k ≠ .engaged id) :
    underSet k s = s.setStation k .lockout := by
  unfold underSet
  rw [if_pos follows]
  split
  · next id _ engaged _ => exact absurd engaged (h id)
  · rfl

theorem underSet_of_engaged {id : Nat} {l : Line} (follows : s.follows k = true) (line : s.mode.line = some l)
    (engaged : s.arms.stations.get k = .engaged id) :
    underSet k s = releasePending l id (s.setStation k .lockout) := by
  unfold underSet
  rw [if_pos follows, engaged, line]

theorem releasePending_of_not_pending {l : Line} (found : s.record? x.id = some x) (h : x.pendingLoss = false) :
    releasePending l x.id s = s := by
  unfold releasePending
  rw [found]
  exact if_neg (by simp [h])

theorem isEngaged_iff (s : State) (id : Nat) : s.isEngaged id = true ↔ ∃ j, s.arms.stations.get j = .engaged id := by
  refine ⟨fun h => ?_, fun ⟨j, h⟩ => ?_⟩
  · obtain h | h := Bool.or_eq_true_iff.1 h
    · exact ⟨.one, beq_iff_eq.1 h⟩
    · exact ⟨.two, beq_iff_eq.1 h⟩
  · cases j with
    | one => exact Bool.or_eq_true_iff.2 (.inl (beq_iff_eq.2 h))
    | two => exact Bool.or_eq_true_iff.2 (.inr (beq_iff_eq.2 h))

theorem pendingLoss_iff (x : LogRecord) : x.pendingLoss = true ↔ ∃ j, (x.at j).lostPending = true := by
  refine Bool.or_eq_true_iff.trans ⟨fun h => ?_, fun ⟨j, h⟩ => ?_⟩
  · exact h.elim (fun h => ⟨.one, h⟩) fun h => ⟨.two, h⟩
  · cases j with
    | one => exact .inl h
    | two => exact .inr h

theorem releasePending_of_engaged {l : Line} {id : Nat} (h : ∃ j, s.arms.stations.get j = .engaged id) :
    releasePending l id s = s := by
  unfold releasePending
  split
  · exact if_neg (by simp [(isEngaged_iff s id).2 h])
  · rfl

/-- A counter raised before a removal or after it. -/
theorem counted_without (s : State) (c : Counter) (r : LogRecord) (left : List LogRecord) :
    (s.counted c).without r left = (s.without r left).counted c := by
  unfold State.without
  dsimp only
  split
  · next ends => exact (if_pos ends).symm ▸ rfl
  · next goesOn => exact (if_neg goesOn).symm ▸ rfl

/-- A lost-pending record that no station is ENGAGED with is removed and counted in LOGS_LOST (R68). -/
theorem releasePending_of_pending {l : Line} (queue : s.tracker.queue = front ++ x :: back)
    (distinct : (s.tracker.queue.map LogRecord.id).Nodup) (pending : x.pendingLoss = true)
    (free : ∀ j, s.arms.stations.get j ≠ .engaged x.id) :
    releasePending l x.id s = (s.without x (front ++ back)).counted .logsLost := by
  obtain ⟨before, -, -⟩ := distinct_around (queue ▸ distinct)
  have away : s.isEngaged x.id = false := by
    rw [← Bool.not_eq_true, isEngaged_iff]
    exact fun ⟨j, h⟩ => free j h
  unfold releasePending
  rw [record?_append queue before rfl]
  dsimp only
  rw [if_pos (by simp [pending, away]), removeRecord_eq_without l .pendingLost queue distinct]
  exact counted_without s .logsLost x (front ++ back)

end lockout

/-- Settles O52: the flag set at a station that holds no lost-pending record, and at one that does; the flag cleared. -/
theorem underSpeedLocksStationOut : Obligations.UnderSpeedLocksStationOut := by
  intro s c k edge t l x front back moment r' r n turning across with_ station locked pulse sets clears restored
    line works used ref
  have follows := follows_of_works (k := k) works line used
  have pulsed : pulse → ∀ {u}, judgeUnder (some l) n r.under = u → r' = turning u →
      exec c s = .next (setRotor k r' (s.reach moment)) := by
    rintro ⟨rfl, rfl, after, within⟩ u judged rfl
    refine congrArg Host.Outcome.next ((pulseRotor_of_period ref after within).trans ?_)
    rw [line]
    exact judged ▸ rfl
  have set : sets → exec c s = .next (underSet k ((s.reach moment).withRotor k r')) := by
    rintro ⟨was, ⟨rfl, rfl, least, rfl⟩ | ⟨pulse, slow, rfl⟩⟩
    · refine congrArg Host.Outcome.next ((silenceRotor_of_ref ref).trans ?_)
      rw [line, silenced_of_line least]
      exact setRotor_of_set rfl was
    · rw [pulsed pulse (if_pos slow) rfl]
      exact congrArg Host.Outcome.next (setRotor_of_set rfl was)
  have clear : clears → exec c s = .next (with_ ((with_ s.arms).unlocked s.tracker.queue k s.arms))
      ∧ r'.under = false := by
    rintro ⟨was, pulse, fast, restart, rfl⟩
    rw [pulsed pulse ((if_neg (Nat.not_lt.2 fast)).trans (if_pos restart)) rfl]
    refine ⟨congrArg Host.Outcome.next ?_, rfl⟩
    rw [setRotor_of_cleared (by rfl) (by exact was), examineLockout_eq_unlocked]
    rfl
  refine ⟨fun h quiet => ?_, fun h queue distinct engaged pending => ⟨fun alone => ?_, fun held => ?_⟩, fun h stays => ?_,
    fun h lockout free => ?_⟩
  · refine (set h).trans (congrArg Host.Outcome.next ?_)
    obtain idle | lockout | ⟨id, x, engaged, found, kept⟩ := quiet
    · exact underSet_of_unengaged (by exact follows) fun id c => nomatch idle.symm.trans c
    · exact underSet_of_unengaged (by exact follows) fun id c => nomatch lockout.symm.trans c
    · have named : x.id = id := by simpa using List.find?_some found
      subst named
      exact (underSet_of_engaged (by exact follows) (by exact line) (by exact engaged)).trans
        (releasePending_of_not_pending (by exact found) kept)
  · refine (set h).trans (congrArg Host.Outcome.next ?_)
    refine (underSet_of_engaged (by exact follows) (by exact line) (by exact engaged)).trans
      (releasePending_of_pending (by exact queue) (by exact distinct) ((pendingLoss_iff x).2 pending) fun j => ?_)
    by_cases here : j = k
    · subst here
      exact fun c => by simp [State.setStation] at c
    · exact fun c => alone j here (by simpa [State.setStation, State.withRotor, Pair.get_set, here] using c)
  · refine (set h).trans (congrArg Host.Outcome.next ?_)
    obtain ⟨j, other, holds⟩ := held
    refine (underSet_of_engaged (by exact follows) (by exact line) (by exact engaged)).trans
      (releasePending_of_engaged ⟨j, ?_⟩)
    simpa [State.setStation, State.withRotor, Pair.get_set, other] using holds
  · refine (clear h).1.trans (congrArg (fun a => Host.Outcome.next (with_ a)) (if_neg fun c => ?_))
    obtain ⟨-, lockout, -, free⟩ := c
    obtain other | ⟨y, hy, lies⟩ := stays
    · exact other lockout
    · exact free y hy lies
  · refine (clear h).1.trans (congrArg (fun a => Host.Outcome.next (with_ a)) ?_)
    have slow : ((with_ s.arms).inputs.rotors.get k).under = false := by simpa [with_] using (clear h).2
    refine (if_pos ⟨follows, lockout, slow, fun y hy lies => free ⟨y, hy, lies⟩⟩).trans ?_
    rw [ArmController.idled, if_neg (by rw [lockout]; exact nofun)]
    rfl

end Sys2Proof.Machine
end

section
/-! PROOFS. Legal transitions (R30, R35, R36) with the blocked-eye check (R43, R65): O47. -/

namespace Sys2Proof.Machine

/-! ## The faulted marks are no concern of a re-evaluation (R57 to R59, R72) -/

theorem endFinishing_tracker (s : State) : (endFinishing s).tracker = s.tracker := by
  rw [endFinishing_eq]
  split <;> rfl

theorem removeRecord_faulted (l : Line) (id : Nat) (why : Removal) (s : State) :
    (removeRecord l id why s).tracker.faulted = s.tracker.faulted := by
  cases found : s.record? id with
  | none => rw [removeRecord_of_none found]
  | some r =>
    rw [removeRecord_of_some found, endFinishing_tracker]
    unfold withdraw
    simp only [examineLockout_eq_unlocked, dropEngaged_eq]
    cases why.counter? <;>
    · unfold State.bump?
      dsimp only [State.bump_tracker]
      split
      · split <;> rfl
      · rfl

theorem faulted_trackKept (m : Pair Bool) : TrackKept fun t => t.tracker.faulted = m where
  count h _ := h
  update h _ _ _ _ := h
  idle h _ := by rw [enterIdle_eq_idled]; exact h
  engage h _ _ _ _ _ _ _ := h
  lock h _ _ := h
  remove h _ _ _ := (removeRecord_faulted _ _ _ _).trans h

theorem travelChanged_faulted (s : State) : (travelChanged s).tracker.faulted = s.tracker.faulted :=
  (faulted_trackKept s.tracker.faulted).travelChanged rfl

theorem travelChanged_of_empty {s : State} (h : s.tracker.queue = []) : travelChanged s = s := by
  unfold travelChanged
  rw [h]
  split <;> rfl

/-! ## The blocked-eye check (R43) -/

section check

variable {s : State} {k : Station}

theorem checkEye_of_clear (h : ¬ (s.inputs.eyes.get k).blockedAt s.mode.line s.travel.t) : checkEye k s = s := by
  unfold checkEye
  split
  · rfl
  · next l line => exact if_neg (fun c => h (line ▸ Eye.blockedAt_iff.2 c))

theorem checkEye_of_blocked {l : Line} (line : s.mode.line = some l)
    (h : (s.inputs.eyes.get k).blockedAt (some l) s.travel.t) :
    checkEye k s = markFaulted k true (s.onEye k (fun e => { e with fault := true })) := by
  unfold checkEye
  rw [line]
  exact if_pos (Eye.blockedAt_iff.1 h)

theorem markFaulted_eyes (k : Station) (f : Bool) (s : State) : (markFaulted k f s).inputs.eyes = s.inputs.eyes :=
  congrArg FieldInputs.eyes (markFaulted_logFrame k f s).inputs

theorem markFaulted_of_used {l : Line} (line : s.mode.line = some l) (used : l.inUse k = true) (f : Bool) :
    markFaulted k f s = { s with tracker := { s.tracker with faulted := s.tracker.faulted.set k f } } := by
  unfold markFaulted
  rw [line]
  exact if_pos used

theorem markFaulted_of_unused {l : Line} (line : s.mode.line = some l) (unused : l.inUse k ≠ true) (f : Bool) :
    markFaulted k f s = s := by
  unfold markFaulted
  rw [line]
  exact if_neg unused

/-- What the check makes of one eye and its mark, in a state u after it (R43, R65). -/
def State.EyeChecked (s u : State) (k : Station) : Prop :=
  ((s.inputs.eyes.get k).blockedAt s.mode.line s.travel.t →
      u.inputs.eyes.get k = { s.inputs.eyes.get k with fault := true }
      ∧ ((∃ l, s.mode.line = some l ∧ (k = .one ∨ l.record.stations = 2)) → u.tracker.faulted.get k = true)
      ∧ ((¬ ∃ l, s.mode.line = some l ∧ (k = .one ∨ l.record.stations = 2)) →
          u.tracker.faulted.get k = s.tracker.faulted.get k))
  ∧ (¬ (s.inputs.eyes.get k).blockedAt s.mode.line s.travel.t →
      u.inputs.eyes.get k = s.inputs.eyes.get k ∧ u.tracker.faulted.get k = s.tracker.faulted.get k)

theorem checkEye_checked (k : Station) (s : State) : s.EyeChecked (checkEye k s) k := by
  refine ⟨fun blocked => ?_, fun clear => ?_⟩
  · obtain ⟨-, -, l, -, line, -⟩ := id blocked
    rw [line] at blocked
    rw [checkEye_of_blocked line blocked, markFaulted_eyes]
    refine ⟨Pair.get_set_same _ _ _, fun ⟨m, here, used⟩ => ?_, fun unused => ?_⟩
    · obtain rfl := Option.some.inj (line.symm.trans here)
      rw [markFaulted_of_used (by exact line) ((l.inUse_iff k).2 used)]
      exact Pair.get_set_same _ _ _
    · rw [markFaulted_of_unused (by exact line) fun used => unused ⟨l, line, (l.inUse_iff k).1 used⟩]
      rfl
  · rw [checkEye_of_clear clear]
    exact ⟨rfl, rfl⟩

/-- The check of one eye leaves the other's to it. -/
theorem checkEye_other {j : Station} (other : j ≠ k) (s : State) :
    (checkEye k s).inputs.eyes.get j = s.inputs.eyes.get j
      ∧ (checkEye k s).tracker.faulted.get j = s.tracker.faulted.get j := by
  by_cases blocked : (s.inputs.eyes.get k).blockedAt s.mode.line s.travel.t
  · obtain ⟨-, -, l, -, line, -⟩ := id blocked
    rw [line] at blocked
    rw [checkEye_of_blocked line blocked, markFaulted_eyes]
    refine ⟨by simp [State.onEye, Pair.get_set, other], ?_⟩
    by_cases used : l.inUse k = true
    · rw [markFaulted_of_used (by exact line) used]
      simp [State.onEye, Pair.get_set, other]
    · rw [markFaulted_of_unused (by exact line) used]
      rfl
  · rw [checkEye_of_clear blocked]
    exact ⟨rfl, rfl⟩

theorem checkEyes_checked (s : State) (k : Station) : s.EyeChecked (checkEyes s) k := by
  obtain ⟨eyes, marks, first⟩ := checkEye_eq .one s
  cases k with
  | one =>
    obtain ⟨eye, mark⟩ := checkEye_other (k := .two) (j := .one) nofun (checkEye .one s)
    have checked := checkEye_checked .one s
    unfold State.EyeChecked at checked ⊢
    rw [checkEyes, eye, mark]
    exact checked
  | two =>
    have second := checkEye_checked .two (checkEye .one s)
    obtain ⟨eye, mark⟩ := checkEye_other (k := .one) (j := .two) nofun s
    have line : (checkEye .one s).mode.line = s.mode.line := by rw [first]
    have travel : (checkEye .one s).travel = s.travel := by rw [first]
    unfold State.EyeChecked at second ⊢
    rwa [eye, mark, line, travel] at second

/-- No eye blocked, nothing changed. -/
theorem checkEyes_of_clear (h : ∀ k, ¬ (s.inputs.eyes.get k).blockedAt s.mode.line s.travel.t) : checkEyes s = s := by
  rw [checkEyes, checkEye_of_clear (h .one), checkEye_of_clear (h .two)]

end check

/-! ## Legal transitions -/

section legal

variable {s : State} {a b : Bool}

theorem transition_forward {x y : Bool} (h : (x, y, a, b) ∈ [(false, false, true, false), (true, false, true, true),
    (true, true, false, true), (false, true, false, false)]) : transition x y a b = .forward := by
  simp only [List.mem_cons, List.not_mem_nil, or_false, Prod.mk.injEq] at h
  rcases h with ⟨rfl, rfl, rfl, rfl⟩ | ⟨rfl, rfl, rfl, rfl⟩ | ⟨rfl, rfl, rfl, rfl⟩ | ⟨rfl, rfl, rfl, rfl⟩ <;> rfl

theorem transition_reverse {x y : Bool} (h : (x, y, a, b) ∈ [(false, false, false, true), (false, true, true, true),
    (true, true, true, false), (true, false, false, false)]) : transition x y a b = .reverse := by
  simp only [List.mem_cons, List.not_mem_nil, or_false, Prod.mk.injEq] at h
  rcases h with ⟨rfl, rfl, rfl, rfl⟩ | ⟨rfl, rfl, rfl, rfl⟩ | ⟨rfl, rfl, rfl, rfl⟩ | ⟨rfl, rfl, rfl, rfl⟩ <;> rfl

theorem encoderChange_of_same (ha : s.travel.lineA = a) (hb : s.travel.lineB = b) : encoderChange a b s = s := by
  subst ha hb
  unfold encoderChange
  rw [transition_self]

/-- The direction of a legal transition. -/
def Transition.ofDirection (forward : Bool) : Transition := if forward then .forward else .reverse

theorem encoderChange_of_legal {forward : Bool}
    (h : transition s.travel.lineA s.travel.lineB a b = Transition.ofDirection forward) :
    encoderChange a b s = legalTransition forward (s.withLevels a b) := by
  unfold encoderChange
  rw [h]
  cases forward <;> rfl

/-- The state with the count made and nothing else handed on (R30, R35, R36). -/
def State.stepped (s : State) (forward : Bool) (a b : Bool) : State :=
  { s.withLevels a b with travel := (s.withLevels a b).travel.moved forward s.now }

theorem legalTransition_eq (ok : s.travel.failed = false) (forward : Bool) :
    legalTransition forward (s.withLevels a b) = checkEyes (travelChanged (s.stepped forward a b)) := by
  unfold legalTransition
  exact if_neg (by simp [State.withLevels, ok])

/-- An eye that is clear or in FAULT is not blocked (R43). -/
theorem Eye.not_blockedAt {e : Eye} (h : e.dark = false ∨ e.fault = true) (line : Option Line) (t : Travel) :
    ¬ e.blockedAt line t := by
  rintro ⟨dark, ok, -⟩
  rcases h with clear | fault
  · exact Bool.false_ne_true (clear.symm.trans dark)
  · exact Bool.false_ne_true (ok.symm.trans fault)

/-- What the count of a legal transition leaves, whatever the queue makes of it. -/
theorem stepped_kept (s : State) (forward : Bool) (a b : Bool) {t : State}
    (ht : t = checkEyes (travelChanged (s.stepped forward a b))) :
    LogFrame (s.stepped forward a b) { t with inputs := s.inputs } ∧ t.inputs.rotors = s.inputs.rotors
      ∧ t.inputs.trip = s.inputs.trip ∧ (∀ k, (travelChanged (s.stepped forward a b)).EyeChecked t k)
      ∧ ((s.tracker.queue = [] ∧ ∀ k, (s.inputs.eyes.get k).dark = false ∨ (s.inputs.eyes.get k).fault = true) →
          t = s.stepped forward a b) := by
  have framed := travelChanged_logFrame (s.stepped forward a b)
  obtain ⟨eyes, marks, checked⟩ := checkEyes_eq (travelChanged (s.stepped forward a b))
  refine ⟨?_, ?_, ?_, fun k => ht ▸ checkEyes_checked _ k, fun ⟨empty, clear⟩ => ?_⟩
  · rw [ht, checked]
    exact { framed with inputs := rfl }
  · rw [ht, checked]
    exact (congrArg FieldInputs.rotors framed.inputs :)
  · rw [ht, checked]
    exact (congrArg FieldInputs.trip framed.inputs :)
  · rw [ht, travelChanged_of_empty (by exact empty), checkEyes_of_clear (s := s.stepped forward a b) fun k => Eye.not_blockedAt (clear k) _ _]

end legal

/-- Settles O47: no change, the encoder failed, and the count of either direction with what it leaves. -/
theorem legalTransitionsCount : Obligations.LegalTransitionsCount := by
  intro s a b x y forward reverse levels moved alone rest checked
  have legal : ∀ dir, transition x y a b = Transition.ofDirection dir →
      exec (.encoderTransition a b) s = .next (legalTransition dir (s.withLevels a b)) :=
    fun dir h => congrArg Host.Outcome.next (encoderChange_of_legal h)
  have direction : forward ∨ reverse → ∃ dir, transition x y a b = Transition.ofDirection dir := fun h =>
    h.elim (fun h => ⟨true, transition_forward h⟩) fun h => ⟨false, transition_reverse h⟩
  have counted : ∀ dir, transition x y a b = Transition.ofDirection dir → s.travel.failed = false →
      ∃ t, exec (.encoderTransition a b) s = .next t ∧ rest t ∧ checked t
        ∧ t.travel = (s.stepped dir a b).travel ∧ (alone → t = { s with travel := t.travel }) := by
    intro dir h ok
    obtain ⟨framed, rotors, trip, eyes, whole⟩ := stepped_kept s dir a b rfl
    have before := travelChanged_logFrame (s.stepped dir a b)
    refine ⟨_, (legal dir h).trans (congrArg Host.Outcome.next (legalTransition_eq ok dir)),
      ⟨framed.portU, framed.portD, framed.switch, framed.cycle, framed.line, framed.ambient, rotors, trip,
        framed.replies, framed.now, framed.pending⟩, fun k => ?_, framed.travel, fun empty => ?_⟩
    · have eye := eyes k
      unfold State.EyeChecked at eye
      rw [before.inputs, before.line, before.travel, ← framed.travel, travelChanged_faulted] at eye
      exact eye
    · rw [whole empty]
      rfl
  refine ⟨fun ha hb => congrArg Host.Outcome.next (encoderChange_of_same ha hb), fun h failed => ?_, fun h ok => ?_,
    fun h ok => ?_⟩
  · obtain ⟨dir, h⟩ := direction h
    exact (legal dir h).trans (congrArg Host.Outcome.next (if_pos failed))
  · exact counted true (transition_forward h) ok
  · exact counted false (transition_reverse h) ok

end Sys2Proof.Machine
end

section
/-! PROOFS. Cycle starts and cuts outside RUN and FINISHING (R145, R161, R162), and the trips that make them (O49). -/

namespace Sys2Proof.Machine

/-! ## A start with the line released, in a mode that does not work -/

/-- A channel composed OPEN (R97, R115, R131). -/
def Channel.opened (c : Channel) : Channel :=
  { c with previous := c.lastSent, lastSent := 0, closedCycles := 0, deviations := 0, clamp := false }

/-- The command OPEN (R97). -/
def ArmCommand.opens : ArmCommand := { close := false, setpoint := 0 }

/-- What a start makes of the state s: the next cycle with every channel OPEN, its CYCLE_SYNC on the wire, and nothing
counted but an aborted reception (R3, R97, R145 to R147). -/
structure State.StartsOpen (s t : State) (l : Line) : Prop where
  number : t.cycle.number = (s.cycle.number + 1) % 65536
  phase : t.cycle.phase = .sync
  wait : t.cycle.wait = none
  nextDue : t.cycle.nextDue = some (s.now + l.record.period * 1000)
  headMiss : t.cycle.headMiss = s.cycle.headMiss
  sync : t.portD.tx.map Sending.frame =
    some (Frame.mk 255#8 s.switch.ownAddr 0x30#8 (be16 ((s.cycle.number + 1) % 65536)))
  waiting : t.portD.waiting = s.portD.waiting
  switch : t.switch = s.switch
  channels : ∀ k, t.arms.channels.get k = (s.arms.channels.get k).map Channel.opened
  composed : t.cycle.composed = some
    { one := s.arms.channels.one.map fun _ => ArmCommand.opens, two := s.arms.channels.two.map fun _ => ArmCommand.opens }
  counters : ∀ c, c ≠ .framesAborted → t.requests.counters.get c = s.requests.counters.get c

theorem mapIndexed_of_const {α β : Type} {f : Nat → α → β} {g : α → β} (h : ∀ i x, f i x = g x) (n : Nat) (xs : List α) :
    mapIndexed f n xs = xs.map g := by
  induction xs generalizing n with
  | nil => rfl
  | cons x xs ih => rw [mapIndexed, ih, h, List.map_cons]

section starts

variable {s : State} {l : Line}

/-- Driving CYCLE_SYNC changes Port D and one counter. -/
theorem drives_eq (s : State) (f : Frame) (now : Nat) : ∃ rx c,
    s.drives f now = { s with
      portD := { s.portD with rx := rx, tx := some { frame := f, bytes := wire f, endsAt := now + 5 * (wire f).length } }
      requests := { s.requests with counters := c } }
    ∧ ∀ k, k ≠ .framesAborted → c.get k = s.requests.counters.get k := by
  unfold State.drives
  dsimp only
  split
  · exact ⟨s.portD.rx, s.requests.counters, rfl, fun _ _ => rfl⟩
  · exact ⟨_, _, rfl, fun _ h => Counters.get_bump_other _ h⟩

theorem commandOf_of_open {k : Station} {i : Nat} {c : Channel} (h : s.closeTarget k i c = none) :
    commandOf s k i c = .opens := by
  rw [commandOf, composeChannel_of_open h, h]
  rfl

theorem startCycle_startsOpen (line : s.mode.line = some l) (released : s.portD.tx = none)
    (idle : s.mode.mode.works = false) : s.StartsOpen (startCycle s) l := by
  have channel : ∀ k i (c : Channel), composeChannel s k i c = c.opened :=
    fun k i c => composeChannel_of_open (closeTarget_of_open (.inl idle))
  have command : ∀ k i (c : Channel), commandOf s k i c = ArmCommand.opens :=
    fun k i c => commandOf_of_open (closeTarget_of_open (.inl idle))
  rw [startCycle_eq_started line released]
  unfold State.started
  dsimp only
  simp only [mapIndexed_of_const (channel _), mapIndexed_of_const (command _)]
  obtain ⟨rx, c, driven, counters⟩ := drives_eq ({ s with
    arms := { s.arms with channels :=
      { one := (s.arms.channels.get .one).map Channel.opened, two := (s.arms.channels.get .two).map Channel.opened } }
    cycle := { s.cycle with
      number := (s.cycle.number + 1) % 65536, phase := .sync, nextDue := some (s.now + l.record.period * 1000)
      composed := some { one := (s.arms.channels.get .one).map fun _ => ArmCommand.opens
                         two := (s.arms.channels.get .two).map fun _ => ArmCommand.opens }
      wait := none, deferred := false, cutPending := false } })
    (Frame.mk 255#8 s.switch.ownAddr 0x30#8 (be16 ((s.cycle.number + 1) % 65536))) s.now
  rw [driven]
  exact ⟨rfl, rfl, rfl, rfl, rfl, rfl, rfl, rfl, fun k => by cases k <;> rfl, rfl, counters⟩

/-! ## Cuts (R161, R162) -/

/-- A cut with a frame on the wire waits for its end (R161). -/
theorem cutCycle_of_driven (driven : s.portD.tx ≠ none) :
    cutCycle s = { s with cycle := { s.cycle with wait := none, deferred := false, composed := none, cutPending := true } } := by
  unfold cutCycle
  dsimp only
  split
  · rfl
  · next none => exact absurd none driven

theorem holdReception_eq (s : State) :
    ∃ rx cut, holdReception s = { s with portD := { s.portD with rx := rx, cut := cut } } := by
  unfold holdReception
  split
  · exact ⟨_, _, rfl⟩
  · exact ⟨_, _, rfl⟩

/-- A cut with the line released starts a cycle at once (R161). -/
theorem cutCycle_startsOpen (line : s.mode.line = some l) (released : s.portD.tx = none)
    (idle : s.mode.mode.works = false) : s.StartsOpen (cutCycle s) l := by
  obtain ⟨rx, cut, held⟩ := holdReception_eq
    { s with cycle := { s.cycle with wait := none, deferred := false, composed := none } }
  have now : cutCycle s = startCycle (holdReception
      { s with cycle := { s.cycle with wait := none, deferred := false, composed := none } }) := by
    unfold cutCycle
    dsimp only
    rw [released]
  rw [now, held]
  exact { startCycle_startsOpen (s := { s with
    portD := { s.portD with rx := rx, cut := cut }
    cycle := { s.cycle with wait := none, deferred := false, composed := none } }) line released idle with }

theorem cutCycle_wait (line : s.mode.line = some l) (idle : s.mode.mode.works = false) : (cutCycle s).cycle.wait = none := by
  by_cases released : s.portD.tx = none
  · exact (cutCycle_startsOpen line released idle).wait
  · rw [cutCycle_of_driven released]

theorem cutCycle_switch (line : s.mode.line = some l) (idle : s.mode.mode.works = false) :
    (cutCycle s).switch = s.switch := by
  by_cases released : s.portD.tx = none
  · exact (cutCycle_startsOpen line released idle).switch
  · rw [cutCycle_of_driven released]

theorem cutCycle_counters (line : s.mode.line = some l) (idle : s.mode.mode.works = false) {c : Counter}
    (h : c ≠ .framesAborted) : (cutCycle s).requests.counters.get c = s.requests.counters.get c := by
  by_cases released : s.portD.tx = none
  · exact (cutCycle_startsOpen line released idle).counters c h
  · rw [cutCycle_of_driven released]

theorem opened_channels {t : State} (h : s.StartsOpen t l) : ∀ k, ∀ c ∈ t.arms.channels.get k, c.lastSent = 0 := by
  intro k c hc
  rw [h.channels k, List.mem_map] at hc
  obtain ⟨_, _, rfl⟩ := hc
  rfl

theorem opened_commands {t : State} (h : s.StartsOpen t l) :
    ∃ p, t.cycle.composed = some p ∧ ∀ c ∈ p.one ++ p.two, c.close = false ∧ c.setpoint = 0 := by
  refine ⟨_, h.composed, fun c hc => ?_⟩
  rw [List.mem_append, List.mem_map, List.mem_map] at hc
  obtain ⟨_, _, rfl⟩ | ⟨_, _, rfl⟩ := hc <;> exact ⟨rfl, rfl⟩

/-- Counters that are alike stay alike when both are raised (R174). -/
theorem counted_congr {s t : State} (h : ∀ k, t.requests.counters.get k = s.requests.counters.get k) (c k : Counter) :
    (t.counted c).requests.counters.get k = (s.counted c).requests.counters.get k := by
  by_cases same : k = c
  · subst same
    exact (Counters.get_bump_same _ _).trans ((congrArg _ (h k)).trans (Counters.get_bump_same _ _).symm)
  · exact (Counters.get_bump_other _ same).trans ((h k).trans (Counters.get_bump_other _ same).symm)

/-- The last byte of a good frame, taken in the step behind the cut it came together with (R162): the frame is counted
and UNSOLICITED, and not aborted. -/
theorem lastByte_after_cut {t : State} {last : Byte} {rest : List Instr} {f : Frame} (now : t.now = s.now)
    (pending : t.pending = s.pending) (driven : t.portD.tx ≠ none) (cuts : s.CutsReception t)
    (others : ∀ k, k ≠ .framesAborted → t.requests.counters.get k = s.requests.counters.get k)
    (waits : s.pending = .receiveByte .d last :: rest) (good : s.portD.rx.completes last f) :
    ∃ u, step t = .next u ∧ u.pending = rest ∧ u.cycle = t.cycle ∧ u.switch = t.switch ∧ u.portD.tx = t.portD.tx
      ∧ u.portD.rx.phase = .hunt ∧ ∀ k, u.requests.counters.get k =
          ((s.counted .dFramesOk).counted .unsolicited).requests.counters.get k := by
  obtain ⟨hunts, -, -, ending⟩ := cuts
  obtain ⟨kept, aborted⟩ := ending ⟨last, rest, waits, .inl ⟨f, good⟩⟩
  have taken : step t = .next (byteD last { t with pending := rest }) := stepRunsFrontCommand t _ rest (pending.trans waits)
  have counters : ∀ k, t.requests.counters.get k = s.requests.counters.get k := fun k => by
    by_cases h : k = .framesAborted
    · rw [h, aborted]
    · exact others k h
  rw [byteD_of_driven (by exact driven), byteAtCut_of_completes (by exact kept) now.symm good] at taken
  exact ⟨_, taken, rfl, rfl, rfl, rfl, hunts, fun k => counted_congr (counted_congr counters _) _ k⟩

end starts

/-! ## Trips (R20 to R22) -/

section trips

variable {s : State}

theorem trip_of_ready (h : s.mode.mode = .standby ∨ s.mode.mode = .run ∨ s.mode.mode = .finishing) (c : TripCause) :
    trip c s = cutCycle (enterTripped c s) := by
  unfold trip
  obtain h | h | h := h <;> rw [h]

/-- TRIPPED with its flush (R22). -/
theorem enterTripped_eq (c : TripCause) (s : State) :
    enterTripped c s = { s with
      mode := { s.mode with mode := .tripped, cause := c }
      tracker := { s.tracker with queue := [] }
      tables := s.tables.releaseAll
      arms := (s.arms.idled .one).idled .two } :=
  flush_eq _

theorem releaseAll_eq (t : TableStore) :
    t.releaseAll = { t with
      a := { t.a with refs := 0, state := if t.a.state = .retiring then .idle else t.a.state }
      b := { t.b with refs := 0, state := if t.b.state = .retiring then .idle else t.b.state } } := by
  rw [TableStore.releaseAll, settle_of_none, settle_of_none]

theorem idled_both_stations (a : ArmController) : ((a.idled .one).idled .two).stations = { one := .idle, two := .idle } := by
  rw [idled_both]

end trips

/-- Settles O49: a trip is TRIPPED entered and the cycle cut, whichever of its two causes. -/
theorem tripFlushesAndCutsCycle : Obligations.TripFlushesAndCutsCycle := by
  intro s a b l fails freed failed tripped ready line
  have trips : ∀ c cause travel x,
      exec c s = .next (trip cause { s with travel := travel, inputs := { s.inputs with trip := x } }) →
        tripped c cause travel x := by
    intro c cause travel x taken
    rw [trip_of_ready (by exact ready), enterTripped_eq, releaseAll_eq] at taken
    refine ⟨_, taken, ?_⟩
    generalize entered : State.mk .. = u
    have uline : u.mode.line = some l := entered ▸ line
    have idle : u.mode.mode.works = false := entered ▸ rfl
    have frame := cutCycle_cycleFrame u
    have driven : u.portD = s.portD := entered ▸ rfl
    have counters : ∀ k, k ≠ .framesAborted → (cutCycle u).requests.counters.get k = s.requests.counters.get k :=
      fun k h => (cutCycle_counters uline idle h).trans (entered ▸ rfl)
    refine ⟨frame.travel.trans (entered ▸ rfl), frame.inputs.trans (entered ▸ rfl), frame.now.trans (entered ▸ rfl),
      frame.mode.trans (entered ▸ rfl), frame.tracker.trans (entered ▸ rfl), frame.tables.trans (entered ▸ rfl),
      frame.stations.trans (entered ▸ idled_both_stations _), cutCycle_wait uline idle, frame.nodes.trans (entered ▸ rfl),
      counters, frame.replies.trans (entered ▸ rfl), (cutCycle_switch uline idle).trans (entered ▸ rfl),
      frame.portU.trans (entered ▸ rfl), fun released => ?_, fun busy => ?_⟩
    · have starts := cutCycle_startsOpen uline (driven ▸ released) idle
      have cuts : s.CutsReception (cutCycle u) := by
        have cuts := cutCycle_cutsReception uline (driven ▸ released)
        rw [← entered] at cuts ⊢
        exact cuts
      have number : u.cycle = s.cycle := entered ▸ rfl
      have switch : u.switch = s.switch := entered ▸ rfl
      have now : u.now = s.now := entered ▸ rfl
      have sync := starts.sync
      have due := starts.nextDue
      rw [number, switch] at sync
      rw [now] at due
      refine ⟨number ▸ starts.number, starts.phase, due, sync, opened_channels starts, opened_commands starts,
        fun period => congrArg Host.Outcome.next (startDue_of_other ?_), cuts, fun last rest f waits good => ?_⟩
      · rw [due]
        intro same
        have := Option.some.inj same
        omega
      · have sent : (cutCycle u).portD.tx ≠ none := fun none => by simp [none] at sync
        exact lastByte_after_cut (frame.now.trans now) (frame.pending.trans (entered ▸ rfl)) sent cuts counters waits good
    · rw [cutCycle_of_driven (driven ▸ busy)]
      exact ⟨driven, rfl, rfl⟩
  refine ⟨fun released => trips _ _ _ _ (congrArg Host.Outcome.next (tripLevel_of_rise released)), fun fails => ?_⟩
  obtain ⟨ha, hb, ok, seven⟩ := fails
  have eighth : (s.withLevels a b).travel.illegal = 7 := seven
  have disturbed : (s.withLevels a b).travel.disturb = failed := by
    rw [disturb_of_limit (by exact ok) (by omega) (by omega), eighth]
    rfl
  refine trips _ _ _ _ (congrArg Host.Outcome.next ((encoderChange_of_both ha hb).trans ?_))
  rw [illegalTransition_of_fails (s := s.withLevels a b) (by rw [disturbed]) ok, disturbed]
  rfl

end Sys2Proof.Machine
end

section
/-! PROOFS. LINE_RESET in every block (R29, R95, R142, R163, R176): O46. -/

namespace Sys2Proof.Machine

/-! ## The blocks' own values -/

theorem ModeControl.lineReset_works (m : ModeControl) (trip : Bool) : (m.lineReset trip).mode.works = false := by
  unfold ModeControl.lineReset
  split
  · next unset => exact unset ▸ rfl
  · split <;> rfl

theorem ModeControl.lineReset_ambient (m : ModeControl) (trip : Bool) : (m.lineReset trip).ambient = m.ambient := by
  unfold ModeControl.lineReset
  split
  · rfl
  · split <;> rfl

theorem ModeControl.lineReset_of_unset {m : ModeControl} (h : m.mode = .unset) (trip : Bool) :
    m.lineReset trip = { m with cause := .none } := by
  unfold ModeControl.lineReset
  rw [h]

theorem ModeControl.lineReset_of_asserted {m : ModeControl} (h : m.mode ≠ .unset) :
    m.lineReset true = { m with mode := .tripped, cause := .tripInput } := by
  unfold ModeControl.lineReset
  split
  · next unset => exact absurd unset h
  · rfl

theorem ModeControl.lineReset_of_released {m : ModeControl} (h : m.mode ≠ .unset) :
    m.lineReset false = { m with mode := .standby, cause := .none } := by
  unfold ModeControl.lineReset
  split
  · next unset => exact absurd unset h
  · rfl

/-- The ACTIVE bank keeps its images, any other is cleared (R95). -/
theorem Bank.lineReset_eq (x : Bank) :
    x.lineReset = if x.state = .active then { x with refs := 0 }
      else { entries := List.replicate 32 none, trims := none, state := .idle, refs := 0 } := by
  unfold Bank.lineReset
  by_cases h : x.state = .active <;> simp [h, Bank.clear]

/-- A channel after LINE_RESET is READY when the record in force enables it (R27, R142). -/
theorem resetChannels_getElem? {line : Option Line} {k : Station} {cs : List Channel} {i : Nat} (inside : i < cs.length)
    {p : Prop} [Decidable p] (enabled : p ↔ ∃ l, line = some l ∧ l.record.armEnable.getLsbD (armBit k i) = true
      ∧ (k = .one ∨ l.record.stations = 2)) :
    (resetChannels line k cs)[i]? = some { Channel.reset with state := if p then .ready else .disabled } := by
  rw [resetChannels, mapIndexed_getElem?, List.getElem?_eq_getElem inside, Option.map_some, Nat.zero_add,
    Channel.lineReset]
  cases line with
  | none => rw [if_neg (c := p) (fun h => nomatch enabled.1 h)]; rfl
  | some l =>
    have own : l.enables k i = true ↔ p := by simp [enabled, Line.enables, l.inUse_iff]
    simp only [own]

theorem opened_resetChannels (line : Option Line) (k : Station) (cs : List Channel) :
    (resetChannels line k cs).map Channel.opened = resetChannels line k cs := by
  refine List.ext_getElem? fun i => ?_
  rw [List.getElem?_map, resetChannels, mapIndexed_getElem?]
  cases cs[i]? <;> rfl

/-! ## The cut that follows -/

/-- The blocks after their resets and the cut (R29, R176). -/
def resetAndCut (s : State) : State := if s.mode.line.isSome then cutCycle (resetBlocks s) else resetBlocks s

theorem lineReset_eq (s : State) :
    lineReset s = modeAnswer { resetAndCut s with requests := RequestService.lineReset } .done := by
  have line : (resetBlocks s).mode.line = s.mode.line := ModeControl.lineReset_line _ _
  unfold lineReset resetAndCut
  dsimp only
  rw [line]

section cut

variable {s : State}

/-- The reception that a cut keeps for its last byte (R162). -/
theorem State.CutsReception.cut {s t : State} (h : s.CutsReception t) : t.portD.rx.phase = .hunt
    ∧ (¬ s.EndsNow → t.portD.cut = s.portD.cut)
    ∧ (s.EndsNow → t.portD.cut = some { rx := s.portD.rx, moment := s.now }) := by
  obtain ⟨hunts, quiet, aborted, ended⟩ := h
  refine ⟨hunts, fun goesOn => ?_, fun ends => (ended ends).1⟩
  by_cases hunting : s.portD.rx.phase = .hunt
  · exact (quiet hunting).1
  · exact (aborted hunting goesOn).1

theorem resetAndCut_cycleFrame (s : State) : CycleFrame (resetBlocks s) (resetAndCut s) := by
  unfold resetAndCut
  split
  · exact cutCycle_cycleFrame _
  · exact CycleFrame.refl _

theorem resetAndCut_of_no_line (h : s.mode.line = none) : resetAndCut s = resetBlocks s := by
  rw [resetAndCut, h]
  rfl

theorem resetAndCut_of_driven (line : s.mode.line ≠ none) (driven : s.portD.tx ≠ none) :
    resetAndCut s = { resetBlocks s with cycle := { (resetBlocks s).cycle with
      wait := none, deferred := false, composed := none, cutPending := true } } :=
  (if_pos (Option.isSome_iff_ne_none.2 line)).trans (cutCycle_of_driven (s := resetBlocks s) driven)

theorem resetAndCut_startsOpen {l : Line} (line : s.mode.line = some l) (released : s.portD.tx = none) :
    (resetBlocks s).StartsOpen (resetAndCut s) l ∧ (resetBlocks s).CutsReception (resetAndCut s) := by
  have kept : (resetBlocks s).mode.line = some l := (ModeControl.lineReset_line _ _).trans line
  rw [resetAndCut, if_pos (by rw [line]; rfl)]
  exact ⟨cutCycle_startsOpen kept released (ModeControl.lineReset_works _ _), cutCycle_cutsReception kept released⟩

/-- The switch, the head misses and the channels, with the cut or without (R142, R163). -/
theorem resetAndCut_kept (s : State) :
    (resetAndCut s).switch = s.switch ∧ (resetAndCut s).cycle.headMiss = 0
      ∧ ∀ k, (resetAndCut s).arms.channels.get k = resetChannels s.mode.line k (s.arms.channels.get k) := by
  have own : ∀ k, (resetBlocks s).arms.channels.get k = resetChannels s.mode.line k (s.arms.channels.get k) :=
    fun k => by cases k <;> rfl
  cases line : s.mode.line with
  | none =>
    rw [resetAndCut_of_no_line line]
    exact ⟨rfl, rfl, fun k => line ▸ own k⟩
  | some l =>
    by_cases released : s.portD.tx = none
    · have starts := (resetAndCut_startsOpen line released).1
      refine ⟨starts.switch, starts.headMiss, fun k => ?_⟩
      rw [starts.channels, own, opened_resetChannels, line]
    · rw [resetAndCut_of_driven (by simp [line]) released]
      exact ⟨rfl, rfl, fun k => line ▸ own k⟩

end cut

/-- Settles O46: the blocks' own resets, kept by the cut, and the cut by what is on the Port D wire. -/
theorem lineResetRestartsTheLine : Obligations.LineResetRestartsTheLine := by
  intro s src num reset bank eye free ok five five'
  have frame := resetAndCut_cycleFrame s
  obtain ⟨switch, headMiss, channels⟩ := resetAndCut_kept s
  have executed := exec_lineReset_of_slotFree free src num
  rw [lineReset_eq] at executed
  refine ⟨_, executed, ?_, ?_, fun unset => ?_, fun set trip => ?_, fun set trip => ?_, switch, frame.portU, frame.pending,
    (congrArg FieldInputs.trip frame.inputs :), (congrArg FieldInputs.eyes frame.inputs :), (congrArg LogTracker.queue frame.tracker :),
    (congrArg LogTracker.faulted frame.tracker :), ?_, frame.stations, fun k i hi => ?_, frame.nodes, headMiss,
    fun l line released => ?_, fun l x line driven => ?_, fun c => Counters.zero_get c, rfl, ?_⟩
  · exact (congrArg ModeControl.line frame.mode).trans (ModeControl.lineReset_line _ _)
  · exact (congrArg ModeControl.ambient frame.mode).trans (ModeControl.lineReset_ambient _ _)
  · have none := ok.unset_iff.1 unset
    have uncut := resetAndCut_of_no_line none
    have mode := ModeControl.lineReset_of_unset unset s.inputs.trip
    have kept : (resetAndCut s).mode = { s.mode with cause := .none } := frame.mode.trans mode
    refine ⟨(congrArg ModeControl.mode kept).trans unset, congrArg ModeControl.cause kept, ?_, ?_, ?_⟩
    · exact (congrArg (fun t => t.cycle.phase) uncut).trans (ok.halted_iff.2 unset)
    · exact congrArg (fun t => t.cycle.number) uncut
    · exact congrArg (fun t => t.portD) uncut
  · have kept := frame.mode.trans ((congrArg s.mode.lineReset trip).trans (ModeControl.lineReset_of_asserted set))
    exact ⟨congrArg ModeControl.mode kept, congrArg ModeControl.cause kept⟩
  · have kept := frame.mode.trans ((congrArg s.mode.lineReset trip).trans (ModeControl.lineReset_of_released set))
    exact ⟨congrArg ModeControl.mode kept, congrArg ModeControl.cause kept⟩
  · refine (frame.tables.trans ?_ :)
    show s.tables.lineReset = _
    rw [TableStore.lineReset, Bank.lineReset_eq, Bank.lineReset_eq]
  · refine (congrArg (fun cs => cs[i]?) (channels k)).trans (resetChannels_getElem? ?_ Iff.rfl)
    cases k with
    | one => exact five ▸ hi
    | two => exact five' ▸ hi
  · obtain ⟨starts, cuts⟩ := resetAndCut_startsOpen line released
    obtain ⟨hunts, unended, ended⟩ := cuts.cut
    have first : be16 ((0 + 1) % 65536) = [0#8, 1#8] := by decide
    have sync := starts.sync
    rw [show (resetBlocks s).cycle.number = 0 from rfl, first] at sync
    have composed := starts.composed
    have one : (resetBlocks s).arms.channels.one.length = 5 := (mapIndexed_length _ _ _).trans five
    have two : (resetBlocks s).arms.channels.two.length = 5 := (mapIndexed_length _ _ _).trans five'
    rw [List.map_const', List.map_const', one, two] at composed
    exact ⟨starts.number, starts.phase, starts.wait, starts.nextDue, sync, hunts, starts.waiting, unended, ended, composed⟩
  · have cut := resetAndCut_of_driven (by simp [line]) (s := s) (by simp [driven])
    exact ⟨congrArg (fun t => t.portD) cut, congrArg (fun t => t.cycle.cutPending) cut,
      congrArg (fun t => t.cycle.wait) cut, congrArg (fun t => t.cycle.number) cut⟩
  · rfl

end Sys2Proof.Machine
end

section
/-! PROOFS. LINE_LOAD accepted (R24 to R27, R164): O32. -/

namespace Sys2Proof.Machine

/-! ## A part at rest -/

/-- No record queued, no station away from IDLE, no bank bound: what a flush finds outside RUN and FINISHING. -/
structure State.Rests (s : State) : Prop where
  queue : s.tracker.queue = []
  stations : s.arms.stations = { one := .idle, two := .idle }
  tables : s.tables.releaseAll = s.tables

/-- A bank to which nothing is bound is as if all had been released (R89, R90). -/
theorem released_of_unbound {x : Bank} (unbound : x.refs = 0) (retiring : x.state = .retiring → x.refs ≠ 0) :
    ({ x with refs := 0 } : Bank).settle = x := by
  rw [settle_of_none, if_neg fun c => retiring c unbound, ← unbound]

theorem State.TablesOk.releaseAll {s : State} (ok : s.TablesOk) (empty : s.tracker.queue = []) :
    s.tables.releaseAll = s.tables := by
  have unbound : ∀ k, s.BankOk k → (s.tables.bank k).refs = 0 := fun k bank => by rw [bank.refs, empty]; rfl
  have a : ({ s.tables.a with refs := 0 } : Bank).settle = s.tables.a :=
    released_of_unbound (unbound .a ok.bank_a) ok.bank_a.retiring
  have b : ({ s.tables.b with refs := 0 } : Bank).settle = s.tables.b :=
    released_of_unbound (unbound .b ok.bank_b) ok.bank_b.retiring
  rw [TableStore.releaseAll, a, b]

theorem State.ModeOk.rests {s : State} (ok : s.ModeOk) (tables : s.TablesOk) (idle : s.mode.mode.works = false) :
    s.Rests :=
  ⟨ok.queue_eq_nil idle, ok.stations_rest idle, tables.releaseAll (ok.queue_eq_nil idle)⟩

theorem idled_of_rest {a : ArmController} (h : a.stations = { one := .idle, two := .idle }) :
    (a.idled .one).idled .two = a := by
  have idle : ∀ k, a.idled k = a := fun k => if_pos (by rw [h]; cases k <;> rfl)
  rw [idle, idle]

theorem enterTripped_of_rest {s : State} (h : s.Rests) (c : TripCause) :
    enterTripped c s = { s with mode := { s.mode with mode := .tripped, cause := c } } := by
  rw [enterTripped_eq, h.tables, idled_of_rest h.stations, ← h.queue]

/-! ## The acceptance up to its cycle -/

/-- The mode of an acceptance (R26; the encoder by log 15). -/
def acceptedMode (s : State) (l : Line) : ModeControl :=
  if s.inputs.trip = true then { s.mode with line := some l, mode := .tripped, cause := .tripInput }
  else if s.travel.failed = true then { s.mode with line := some l, mode := .tripped, cause := .encoder }
  else { s.mode with line := some l, mode := .standby, cause := .none }

section accept

variable {s : State} {l : Line}

theorem acceptMode_of_rest (h : s.Rests) :
    acceptMode { s with mode := { s.mode with line := some l } } = { s with mode := acceptedMode s l } := by
  have tripped : ∀ c (m : ModeControl), enterTripped c { s with mode := m } =
      { s with mode := { m with mode := .tripped, cause := c } } :=
    fun c m => enterTripped_of_rest (s := { s with mode := m }) ⟨h.queue, h.stations, h.tables⟩ c
  unfold acceptMode acceptedMode
  dsimp only
  rw [tripped, tripped]
  split
  · rfl
  · split <;> rfl

theorem acceptedMode_line (s : State) (l : Line) : (acceptedMode s l).line = some l := by
  unfold acceptedMode
  split
  · rfl
  · split <;> rfl

theorem acceptedMode_ambient (s : State) (l : Line) : (acceptedMode s l).ambient = s.mode.ambient := by
  unfold acceptedMode
  split
  · rfl
  · split <;> rfl

theorem acceptedMode_works (s : State) (l : Line) : (acceptedMode s l).mode.works = false := by
  unfold acceptedMode
  split
  · rfl
  · split <;> rfl

/-- The eyes after an acceptance, by the new record's limit, and the marks that follow them (R43, R65). -/
theorem acceptInputs_checked (line : s.mode.line = some l) : ∃ eyes marks, acceptInputs l s =
    { acceptBlocks l s with
      inputs := { s.inputs with eyes := eyes }, tracker := { s.tracker with faulted := marks } }
    ∧ ∀ k : Station, ((s.inputs.eyes.get k).blockedAt (some l) s.travel.t →
          eyes.get k = { s.inputs.eyes.get k with fault := true })
        ∧ (¬ (s.inputs.eyes.get k).blockedAt (some l) s.travel.t → eyes.get k = s.inputs.eyes.get k)
        ∧ marks.get k = (eyes.get k).fault := by
  obtain ⟨eyes, marks, checked⟩ := checkEyes_eq (acceptBlocks l s)
  refine ⟨eyes, { one := eyes.one.fault, two := eyes.two.fault }, by rw [acceptInputs_eq, checked]; rfl, fun k => ?_⟩
  obtain ⟨blocked, clear⟩ := checkEyes_checked (acceptBlocks l s) k
  rw [checked, show (acceptBlocks l s).mode.line = some l from line] at blocked clear
  exact ⟨fun h => (blocked h).1, fun h => (clear h).1, by cases k <;> rfl⟩

/-- The state of an acceptance before its cycle starts or is cut (R26). -/
def State.accepting (s : State) (l : Line) : State :=
  (acceptInputs l (acceptMode { s with mode := { s.mode with line := some l } })).addressed (BitVec.ofNat 8 l.record.address)

theorem accepting_eq (h : s.Rests) (l : Line) : ∃ eyes marks, s.accepting l =
    { s with
      switch := { s.switch with ownAddr := BitVec.ofNat 8 l.record.address }
      mode := acceptedMode s l
      inputs := { s.inputs with eyes := eyes }
      tracker := { s.tracker with faulted := marks }
      travel := s.travel.acceptLine l s.now
      arms := { s.arms with channels :=
        { one := loadChannels l .one s.arms.channels.one, two := loadChannels l .two s.arms.channels.two } }
      cycle := { s.cycle with nodes := { one := Node.reset, two := Node.reset } } }
    ∧ ∀ k : Station, ((s.inputs.eyes.get k).blockedAt (some l) s.travel.t →
          eyes.get k = { s.inputs.eyes.get k with fault := true })
        ∧ (¬ (s.inputs.eyes.get k).blockedAt (some l) s.travel.t → eyes.get k = s.inputs.eyes.get k)
        ∧ marks.get k = (eyes.get k).fault := by
  obtain ⟨eyes, marks, inputs, checked⟩ := acceptInputs_checked (s := { s with mode := acceptedMode s l })
    (acceptedMode_line s l)
  refine ⟨eyes, marks, ?_, checked⟩
  rw [State.accepting, acceptMode_of_rest h, inputs]
  rfl

/-! ## The channels -/

/-- A channel under a new line record (R27, R164). -/
def Channel.loaded (enabled : Bool) (c : Channel) : Channel :=
  { (if enabled then c.enable else c.disable) with position := none }

/-- What an acceptance makes of a channel, whether its cycle starts at once or waits (R27, R131). -/
structure Channel.Accepted (c d : Channel) (enabled : Bool) (released : Prop) : Prop where
  lastSent : released ∨ d.state = .disabled ∨ c.state = .disabled → d.lastSent = 0
  counts : released → d.deviations = 0 ∧ d.closedCycles = 0 ∧ d.clamp = false
  position : d.position = none
  state : d.state = if enabled = true then (if c.state = .disabled then .ready else c.state) else .disabled

theorem Channel.loaded_state (c : Channel) (enabled : Bool) :
    (c.loaded enabled).state
      = if enabled = true then (if c.state = .disabled then .ready else c.state) else .disabled := by
  cases enabled with
  | false => rfl
  | true => by_cases h : c.state = .disabled <;> simp [Channel.loaded, Channel.enable, h]

theorem Channel.loaded_accepted {released : Prop} (waits : ¬ released) (c : Channel) (enabled : Bool) :
    c.Accepted (c.loaded enabled) enabled released where
  lastSent h := by
    cases enabled with
    | false => rfl
    | true =>
      by_cases was : c.state = .disabled
      · simp [Channel.loaded, Channel.enable, was]
      · obtain h | h | h := h
        · exact absurd h waits
        · rw [Channel.loaded_state, if_pos rfl, if_neg was] at h
          exact absurd h was
        · exact absurd h was
  counts h := absurd h waits
  position := rfl
  state := c.loaded_state enabled

theorem Channel.opened_accepted (released : Prop) (c : Channel) (enabled : Bool) :
    c.Accepted (c.loaded enabled).opened enabled released :=
  ⟨fun _ => rfl, fun _ => ⟨rfl, rfl, rfl⟩, rfl, c.loaded_state enabled⟩

theorem loadChannels_getElem? {k : Station} {cs : List Channel} {i : Nat} {c : Channel} (here : cs[i]? = some c) :
    (loadChannels l k cs)[i]? = some (c.loaded (l.enables k i)) := by
  rw [loadChannels, mapIndexed_getElem?, here, Option.map_some, Nat.zero_add]
  rfl

theorem enables_iff (l : Line) (k : Station) (i : Nat) :
    l.enables k i = true ↔ l.record.armEnable.getLsbD (armBit k i) = true ∧ (k = .one ∨ l.record.stations = 2) := by
  rw [Line.enables, Bool.and_eq_true, l.inUse_iff]

/-! ## The cycle -/

theorem acceptLine_of_unset (unset : s.mode.mode = .unset) (r : LineRecord) :
    acceptLine r s = startCycle (s.accepting { record := r, counts := lineCounts r }) :=
  (acceptLine_eq r s).trans (if_pos unset)

theorem acceptLine_of_standby (standby : s.mode.mode = .standby) (r : LineRecord) :
    acceptLine r s = cutCycle (s.accepting { record := r, counts := lineCounts r }) :=
  (acceptLine_eq r s).trans (if_neg (by rw [standby]; exact nofun))

end accept

/-- What the end of an acceptance makes of the state u before it: a start at once, or a cut that waits (R26, R161). -/
structure State.CycleTaken (u t : State) (l : Line) : Prop where
  frame : CycleFrame u t
  starts : u.portD.tx = none → u.StartsOpen t l
  waits : u.portD.tx ≠ none → t = { u with cycle := { u.cycle with
    wait := none, deferred := false, composed := none, cutPending := true } }

/-- What holds of a start and of a cut that waits holds at the end of an acceptance. -/
theorem State.CycleTaken.either {u t : State} {l : Line} (h : u.CycleTaken t l) {p : Prop}
    (starts : u.portD.tx = none → u.StartsOpen t l → p)
    (waits : u.portD.tx ≠ none → t = { u with cycle := { u.cycle with
      wait := none, deferred := false, composed := none, cutPending := true } } → p) : p := by
  by_cases released : u.portD.tx = none
  · exact starts released (h.starts released)
  · exact waits released (h.waits released)

theorem startCycle_taken {u : State} {l : Line} (line : u.mode.line = some l) (still : u.mode.mode.works = false)
    (released : u.portD.tx = none) : u.CycleTaken (startCycle u) l :=
  ⟨startCycle_cycleFrame u, fun _ => startCycle_startsOpen line released still, fun driven => absurd released driven⟩

theorem cutCycle_taken {u : State} {l : Line} (line : u.mode.line = some l) (still : u.mode.mode.works = false) :
    u.CycleTaken (cutCycle u) l :=
  ⟨cutCycle_cycleFrame u, fun released => cutCycle_startsOpen line released still, cutCycle_of_driven⟩

/-- A channel after the acceptance, with the cycle started or not (R27, R131). -/
theorem State.CycleTaken.channel {u t : State} {l : Line} (h : u.CycleTaken t l) {k : Station} {cs : List Channel}
    (loaded : u.arms.channels.get k = loadChannels l k cs) {i : Nat} {c : Channel} (here : cs[i]? = some c) :
    ∃ d, (t.arms.channels.get k)[i]? = some d ∧ c.Accepted d (l.enables k i) (u.portD.tx = none) := by
  have channel := loadChannels_getElem? (l := l) (k := k) here
  rw [← loaded] at channel
  refine h.either (fun _ opens => ⟨_, ?_, Channel.opened_accepted _ _ _⟩) fun driven waits =>
    ⟨_, ?_, Channel.loaded_accepted driven _ _⟩
  · rw [opens.channels, List.getElem?_map, channel]
    rfl
  · rw [waits]
    exact channel

/-- Settles O32: the acceptance up to its cycle, kept by the start or the cut, and that by what is on the wire. -/
theorem lineLoadAccepted : Obligations.LineLoadAccepted := by
  intro s src num image r l free ok tables len fields mode five five'
  have idle : s.mode.mode.works = false := by rcases mode with m | m <;> rw [m] <;> rfl
  have rests := ok.rests tables idle
  have executed := exec_lineLoad_of_slotFree free len src num
  rw [loadLine_of_valid mode (lineFault_of_ok fields)] at executed
  obtain ⟨eyes, marks, accepting, checked⟩ := accepting_eq rests l
  generalize reached : s.accepting l = u at accepting
  have line : u.mode.line = some l := accepting ▸ acceptedMode_line s l
  have still : u.mode.mode.works = false := accepting ▸ acceptedMode_works s l
  have wire : u.portD = s.portD := accepting ▸ rfl
  have cycle : u.cycle = { s.cycle with nodes := { one := Node.reset, two := Node.reset } } := accepting ▸ rfl
  have switch : u.switch = { s.switch with ownAddr := BitVec.ofNat 8 r.address } := accepting ▸ rfl
  have requests : u.requests = s.requests := accepting ▸ rfl
  have unset_starts : s.mode.mode = .unset → acceptLine r s = startCycle u := fun h => reached ▸ acceptLine_of_unset h r
  have standby_cuts : s.mode.mode = .standby → acceptLine r s = cutCycle u := fun h => reached ▸ acceptLine_of_standby h r
  generalize accepted : acceptLine (lineImage image) s = t at executed unset_starts standby_cuts
  have taken : u.CycleTaken t l := mode.elim
    (fun h => unset_starts h ▸ startCycle_taken line still (wire ▸ (ok.quiet h).1))
    fun h => standby_cuts h ▸ cutCycle_taken line still
  have frame := taken.frame
  have modes : t.mode = acceptedMode s l := frame.mode.trans (accepting ▸ rfl)
  refine ⟨t, executed, frame.replies.trans (accepting ▸ rfl), frame.inFlight.trans (accepting ▸ rfl),
    (congrArg _ modes).trans (acceptedMode_line s l), (congrArg _ modes).trans (acceptedMode_ambient s l),
    fun trip => ?_, fun trip failed => ?_, fun trip failed => ?_, ?_, frame.nodes.trans (accepting ▸ rfl), ?_,
    fun released => ?_, fun driven => ?_, fun c other => ?_, frame.stations.trans (accepting ▸ rests.stations),
    fun k i hi => ?_, frame.travel.trans (accepting ▸ rfl), (congrArg FieldInputs.trip frame.inputs).trans (accepting ▸ rfl),
    (congrArg FieldInputs.rotors frame.inputs).trans (accepting ▸ rfl), fun k => ?_,
    (congrArg TableStore.a frame.tables).trans (accepting ▸ rfl), (congrArg TableStore.b frame.tables).trans (accepting ▸ rfl),
    (congrArg TableStore.mark frame.tables).trans (accepting ▸ rfl),
    (congrArg LogTracker.queue frame.tracker).trans (accepting ▸ rests.queue), frame.portU.trans (accepting ▸ rfl),
    frame.now.trans (accepting ▸ rfl), frame.pending.trans (accepting ▸ rfl)⟩
  · rw [modes, acceptedMode, if_pos trip]
    exact ⟨rfl, rfl⟩
  · rw [modes, acceptedMode, if_neg (by simp [trip]), if_pos failed]
    exact ⟨rfl, rfl⟩
  · rw [modes, acceptedMode, if_neg (by simp [trip]), if_neg (by simp [failed])]
    exact ⟨rfl, rfl⟩
  · exact (taken.either (fun _ h => h.switch) fun _ h => h ▸ rfl).trans switch
  · exact taken.either (fun _ h => h.wait) fun _ h => h ▸ rfl
  · have opens := taken.starts (wire ▸ released)
    have number := opens.number
    have sync := opens.sync
    have due := opens.nextDue
    have composed := opens.composed
    have now : u.now = s.now := accepting ▸ rfl
    have one : u.arms.channels.one.length = 5 := accepting ▸ (mapIndexed_length _ _ _).trans five
    have two : u.arms.channels.two.length = 5 := accepting ▸ (mapIndexed_length _ _ _).trans five'
    rw [cycle] at number
    rw [cycle, switch] at sync
    rw [now] at due
    rw [List.map_const', List.map_const', one, two] at composed
    refine ⟨number, opens.phase, due, sync, fun unset => ?_, fun standby => ?_, composed⟩
    · have aborts := startCycle_aborts line (wire ▸ released)
      rw [← unset_starts unset, accepting] at aborts
      by_cases hunting : s.portD.rx.phase = .hunt
      · rw [if_pos (by exact hunting)] at aborts
        rwa [if_pos hunting]
      · rw [if_neg (by exact hunting)] at aborts
        rwa [if_neg hunting]
    · have cuts := cutCycle_cutsReception line (wire ▸ released)
      rw [← standby_cuts standby, accepting] at cuts
      exact cuts
  · rw [taken.waits (wire ▸ driven)]
    exact ⟨wire, rfl, rfl, (congrArg CycleMaster.number cycle :), congrArg RequestService.counters requests⟩
  · refine Eq.trans ?_ (congrArg (fun q => q.counters.get c) requests)
    exact taken.either (fun _ h => h.counters c other) fun _ h => h ▸ rfl
  · have inside : i < (s.arms.channels.get k).length := by cases k with
      | one => exact five ▸ hi
      | two => exact five' ▸ hi
    have here := List.getElem?_eq_getElem inside
    have loaded : u.arms.channels.get k = loadChannels l k (s.arms.channels.get k) := by
      rw [accepting]; cases k <;> rfl
    obtain ⟨d, there, h⟩ := taken.channel loaded here
    rw [wire] at h
    exact ⟨_, d, here, there, h.lastSent, h.counts, h.position, h.state.trans (if_congr (enables_iff l k i) rfl rfl)⟩
  · obtain ⟨blocked, clear, mark⟩ := checked k
    rw [frame.inputs, frame.tracker, accepting]
    exact ⟨blocked, clear, mark⟩

end Sys2Proof.Machine
end

section
/-! PROOFS. One record's re-evaluation (R57 to R59, R70), said of a queue with the record in focus: what a record that
stands as it stood leaves as it is, and what one station's step makes of a record that moves. -/

namespace Sys2Proof.Machine

/-! ## A record in focus -/

/-- The state with a queue around one record, and the stations with their channels. -/
def State.holding (s : State) (front : List LogRecord) (x : LogRecord) (back : List LogRecord) (a : ArmController) : State :=
  { s with tracker := { s.tracker with queue := front ++ x :: back }, arms := a }

/-- No other record of the queue has the number. -/
def Apart (front back : List LogRecord) (id : Nat) : Prop := (∀ y ∈ front, y.id ≠ id) ∧ ∀ y ∈ back, y.id ≠ id

theorem LogRecord.setAt_self (r : LogRecord) (k : Station) : r.setAt k (r.at k) = r := by
  cases k <;> rfl

theorem LogRecord.setAt_setAt (r : LogRecord) (k : Station) (x y : Standing) : (r.setAt k x).setAt k y = r.setAt k y := by
  cases k <;> rfl

@[simp] theorem LogRecord.setAt_length (r : LogRecord) (k : Station) (x : Standing) : (r.setAt k x).length = r.length := by
  cases k <;> rfl

@[simp] theorem LogRecord.setAt_b (r : LogRecord) (k : Station) (x : Standing) : (r.setAt k x).b = r.b :=
  (r.setAt_sameLog k x).b

section focus

variable {s : State} {front back : List LogRecord} {x : LogRecord} {a : ArmController} {id : Nat}

theorem holding_self (queue : s.tracker.queue = front ++ x :: back) : s.holding front x back s.arms = s := by
  rw [State.holding, ← queue]

theorem apart_of_nodup (distinct : ((front ++ x :: back).map LogRecord.id).Nodup) : Apart front back x.id :=
  ⟨(distinct_around distinct).1, (distinct_around distinct).2.1⟩

theorem holding_record? (apart : Apart front back id) (own : x.id = id) :
    (s.holding front x back a).record? id = some x :=
  record?_append rfl apart.1 own

theorem holding_update (apart : Apart front back id) (own : x.id = id) (f : LogRecord → LogRecord) :
    (s.holding front x back a).update id f = s.holding front (f x) back a := by
  unfold State.update
  show { s with tracker := { s.tracker with queue := updateRecord id f (front ++ x :: back) }, arms := a } = _
  rw [updateRecord_append apart.1 own apart.2]
  rfl

/-! ## The two steps at a station -/

/-- The record with its window position judged (R57). -/
def LogRecord.windowed (l : Line) (t : Travel) (k : Station) (x : LogRecord) : LogRecord :=
  x.setAt k { x.at k with window := windowPos l.counts k (travelDiff t x.b) }

theorem windowStep_holding (l : Line) (k : Station) (apart : Apart front back id) (own : x.id = id) :
    windowStep l k id (s.holding front x back a) =
      if windowCloses (x.at k) (windowPos l.counts k (travelDiff s.travel.t x.b)) = true
      then closeWindow k id (s.holding front (x.windowed l s.travel.t k) back a)
      else (s.holding front (x.windowed l s.travel.t k) back a, .stays) := by
  unfold windowStep
  rw [holding_record? apart own]
  dsimp only
  rw [holding_update apart own]
  rfl

/-- The record with its contact position judged (R58). -/
def LogRecord.contacted (l : Line) (t : Travel) (k : Station) (x : LogRecord) : LogRecord :=
  x.setAt k { x.at k with contact := contactPos l.counts k x.length (travelDiff t x.b) }

theorem contactStep_holding (l : Line) (k : Station) (apart : Apart front back id) (own : x.id = id) :
    contactStep l k id (s.holding front x back a) =
      if (x.at k).tracked = true then
        (let e := contactEvents k x (x.at k).contact (contactPos l.counts k x.length (travelDiff s.travel.t x.b))
          (s.holding front (x.contacted l s.travel.t k) back a)
         (e.1, if e.2 && k == l.last then .completed else .stays))
      else (s.holding front (x.contacted l s.travel.t k) back a, .stays) := by
  unfold contactStep
  rw [holding_record? apart own]
  dsimp only
  rw [holding_update apart own]
  rfl

theorem windowCloses_self (x : Standing) : windowCloses x x.window = false := by
  cases h : x.window <;> simp [windowCloses, h]

theorem contactEvents_self (k : Station) (r : LogRecord) (c : ContactPos) (s : State) :
    contactEvents k r c c s = (s, false) := by
  cases c <;> rfl

/-- A record that stands at a station as it stood raises nothing there. -/
theorem stationStep_of_stands {l : Line} {k : Station} (tolerance : 0 ≤ l.counts.tolerance) (apart : Apart front back id)
    (own : x.id = id) (stands : (x.at k).standsAt l.counts k x.length (travelDiff s.travel.t x.b)) :
    stationStep l id k (s.holding front x back a, .stays) = (s.holding front x back a, .stays) := by
  obtain ⟨window, contact⟩ := (Standing.standsAt_iff tolerance).1 stands
  have windowed : x.windowed l s.travel.t k = x := by rw [LogRecord.windowed, ← window, LogRecord.setAt_self]
  have contacted : x.contacted l s.travel.t k = x := by rw [LogRecord.contacted, ← contact, LogRecord.setAt_self]
  have first : windowStep l k id (s.holding front x back a) = (s.holding front x back a, .stays) := by
    rw [windowStep_holding l k apart own, ← window, windowCloses_self, windowed]
    rfl
  have second : contactStep l k id (s.holding front x back a) = (s.holding front x back a, .stays) := by
    rw [contactStep_holding l k apart own, ← contact, contactEvents_self, contacted]
    exact ite_self _
  simp only [stationStep, first, second, beq_self_eq_true, if_true]

/-! ## A record that is still -/

theorem atLengthLimit_iff (l : Line) (pos : Int) (r : LogRecord) :
    atLengthLimit l pos r = true ↔ r.length = none ∧ ∃ k, (k = .one ∨ l.record.stations = 2)
      ∧ (r.at k).passedUnseen = false ∧ l.counts.contact.get k + l.counts.maxLength ≤ pos := by
  have used : ∀ k, k ∈ l.used ↔ k = .one ∨ l.record.stations = 2 := fun k => by
    unfold Line.used
    split <;> cases k <;> simp_all
  simp only [atLengthLimit, Bool.and_eq_true, Option.isNone_iff_eq_none, List.any_eq_true, used, Bool.not_eq_true',
    decide_eq_true_eq]

theorem not_atLengthLimit {l : Line} {pos : Int} {r : LogRecord} (h : r.unlimited l pos) :
    atLengthLimit l pos r = false := by
  rw [← Bool.not_eq_true, atLengthLimit_iff]
  rintro ⟨unknown, k, used, unseen, reached⟩
  exact absurd (h unknown k ((l.inUse_iff k).2 used) unseen) (Int.not_lt.2 reached)

theorem limitLength_of_unlimited {l : Line} (apart : Apart front back id) (own : x.id = id)
    (h : x.unlimited l (travelDiff s.travel.t x.b)) :
    limitLength l id (s.holding front x back a) = s.holding front x back a := by
  unfold limitLength
  rw [holding_record? apart own]
  exact if_neg (by rw [show (s.holding front x back a).position x = travelDiff s.travel.t x.b from rfl,
    not_atLengthLimit h]; exact Bool.false_ne_true)

/-- Nothing happens with a record that is still (R57 to R59). -/
theorem reevaluate_of_still {l : Line} (tolerance : 0 ≤ l.counts.tolerance)
    (distinct : (s.tracker.queue.map LogRecord.id).Nodup) (queued : x ∈ s.tracker.queue) (still : x.still l s.travel.t) :
    reevaluate l s x.id = s := by
  obtain ⟨front, back, queue, before, behind⟩ := split_of_mem distinct queued
  obtain ⟨stands, settled, unlimited⟩ := still
  have apart : Apart front back x.id := ⟨before, behind⟩
  have step : ∀ k, l.inUse k = true → stationStep l x.id k (s, .stays) = (s, .stays) := fun k used => by
    have step := stationStep_of_stands (a := s.arms) tolerance apart rfl (stands k used)
    rwa [holding_self queue] at step
  have limit := limitLength_of_unlimited (a := s.arms) apart rfl unlimited
  rw [holding_self queue] at limit
  have stations : l.used.foldl (fun a k => stationStep l x.id k a) (s, .stays) = (s, .stays) := by
    unfold Line.used
    split
    · next two =>
      simp only [List.foldl_cons, List.foldl_nil]
      rw [step .one rfl, step .two two]
    · exact step .one rfl
  unfold reevaluate
  rw [limit, stations]
  refine releasePending_of_not_pending (record?_append queue before rfl) ?_
  rw [← Bool.not_eq_true, pendingLoss_iff]
  exact fun ⟨j, pending⟩ => Bool.false_ne_true ((settled j).symm.trans pending)

end focus

end Sys2Proof.Machine
end

section
/-! PROOFS. Edges of an eye (R42, R44, R60 to R65): O53. -/

namespace Sys2Proof.Machine

/-! ## Joins around a record in focus (R69) -/

section joins

variable {s : State} {l : Line} {front back : List LogRecord} {x : LogRecord} {a : ArmController} {id : Nat}

theorem rejoin_holding (fresh : Bool) (apart : Apart front back id) (own : x.id = id) :
    rejoin l fresh id (s.holding front x back a)
      = s.holding front { x with joined := decideJoined l.counts.minGap fresh front.getLast? x } back a := by
  have before : predecessor? id (s.holding front x back a).tracker.queue = front.getLast? :=
    predecessor?_append apart.1 own apart.2
  unfold rejoin
  rw [before, holding_update apart own]

/-- The flag of the record behind the one in focus decided anew. -/
theorem rejoinSuccessor_holding (distinct : ((front ++ x :: back).map LogRecord.id).Nodup) (own : x.id = id) :
    rejoinSuccessor l id (s.holding front x back a)
      = s.holding front x (rejoinedNext l.counts.minGap (some x) back) a := by
  subst own
  have behind : successor? x.id (s.holding front x back a).tracker.queue = back.head? :=
    successor?_append (distinct_around distinct).1 rfl
  unfold rejoinSuccessor
  rw [behind]
  cases back with
  | nil => rfl
  | cons y rest =>
    have split : front ++ x :: y :: rest = (front ++ [x]) ++ y :: rest := by simp
    rw [split] at distinct
    dsimp only [List.head?_cons]
    rw [rejoin_behind (s := s.holding front x (y :: rest) a) split distinct, List.getLast?_concat,
      List.append_assoc]
    rfl

theorem rejoinedNext_map_id (gap : Int) (p : Option LogRecord) (q : List LogRecord) :
    (rejoinedNext gap p q).map LogRecord.id = q.map LogRecord.id := by
  cases q <;> rfl

/-- A record changed without its number, and the flag behind it, leave the numbers distinct. -/
theorem nodup_around {y : LogRecord} {q : List LogRecord} (distinct : ((front ++ x :: back).map LogRecord.id).Nodup)
    (own : y.id = x.id) (others : q.map LogRecord.id = back.map LogRecord.id) :
    ((front ++ y :: q).map LogRecord.id).Nodup := by
  rw [List.map_append, List.map_cons] at distinct ⊢
  rwa [own, others]

end joins

/-! ## Rising edges (R60 to R63) -/

section rising

variable {s : State} {l : Line} {k : Station} {front back : List LogRecord} {r : LogRecord}

theorem candidate_iff (k : Station) (x : LogRecord) :
    candidate k x = true ↔ (x.at k).window = .within ∧ (x.at k).confirmed = .no ∧ (x.at k).tracked = true := by
  simp only [candidate, Bool.and_eq_true, beq_iff_eq, and_assoc]

theorem confirmedInWindow_iff (k : Station) (x : LogRecord) :
    confirmedInWindow k x = true ↔ (x.at k).window = .within ∧ (x.at k).confirmed ≠ .no ∧ (x.at k).tracked = true := by
  simp only [confirmedInWindow, Bool.and_eq_true, beq_iff_eq, bne_iff_ne, and_assoc]

theorem risingEdge_of_no_line (line : s.mode.line = none) : risingEdge k s = s := by
  unfold risingEdge
  rw [line]

theorem risingEdge_of_unused (line : s.mode.line = some l) (unused : ¬ (k = .one ∨ l.record.stations = 2)) :
    risingEdge k s = s := by
  unfold risingEdge
  rw [line]
  exact if_neg fun c => unused ((l.inUse_iff k).1 c)

/-- With no candidate, the edge is ignored in the window of a confirmed record and else of an unscanned log. -/
theorem risingEdge_of_no_candidate (line : s.mode.line = some l) (used : k = .one ∨ l.record.stations = 2)
    (none : ∀ x ∈ s.tracker.queue, ¬ candidate k x = true) :
    risingEdge k s = if s.tracker.queue.any (confirmedInWindow k) = true then s else unscannedLog l k s := by
  unfold risingEdge
  rw [line]
  dsimp only
  rw [if_pos ((l.inUse_iff k).2 used), List.find?_eq_none.2 none]

theorem risingEdge_of_candidate (line : s.mode.line = some l) (used : k = .one ∨ l.record.stations = 2)
    (queue : s.tracker.queue = front ++ r :: back) (first : ∀ x ∈ front, ¬ candidate k x = true)
    (own : candidate k r = true) : risingEdge k s = confirmByEye l k r.id s := by
  have found : (front ++ r :: back).find? (candidate k) = some r := by
    rw [List.find?_append, List.find?_eq_none.2 first, Option.none_or, List.find?_cons_of_pos own]
  unfold risingEdge
  rw [line]
  dsimp only
  rw [if_pos ((l.inUse_iff k).2 used), queue, found]

/-! ### An unscanned log (R62, R63) -/

theorem unscannedLog_of_no_place (h : s.mode.mode ≠ .run ∨ ∃ x ∈ s.tracker.queue,
    x.b = travelBack s.travel.t (l.counts.eye.get k)) : unscannedLog l k s = s := by
  unfold unscannedLog
  dsimp only
  split
  · rfl
  · next run =>
    obtain idle | ⟨x, hx, same⟩ := h
    · exact absurd (bne_iff_ne.2 idle) run
    · exact if_pos (List.any_eq_true.2 ⟨x, hx, by simpa using same⟩)

theorem unscannedLog_of_place (run : s.mode.mode = .run)
    (new : ∀ x ∈ s.tracker.queue, x.b ≠ travelBack s.travel.t (l.counts.eye.get k)) :
    unscannedLog l k s = if 16 ≤ s.tracker.queue.length then s.counted .unscannedDropped
      else addSynthetic l (syntheticRecord s l k (travelBack s.travel.t (l.counts.eye.get k))) s := by
  have other : s.tracker.queue.any (fun r => r.b == travelBack s.travel.t (l.counts.eye.get k)) ≠ true := fun c => by
    obtain ⟨x, hx, same⟩ := List.any_eq_true.1 c
    exact new x hx (beq_iff_eq.1 same)
  unfold unscannedLog
  dsimp only
  rw [if_neg (by simp [run]), if_neg other]
  rfl

/-- The place that keeps the order (R47). -/
theorem insertRecord_append (before : ∀ x ∈ front, travelDiff x.b r.b ≤ 0)
    (behind : ∀ y ∈ back.head?, 0 < travelDiff y.b r.b) : insertRecord r (front ++ back) = front ++ r :: back := by
  induction front with
  | nil =>
    cases back with
    | nil => rfl
    | cons y rest => exact if_pos (behind y rfl)
  | cons x front ih =>
    have later : ¬ 0 < travelDiff x.b r.b := Int.not_lt.2 (before x List.mem_cons_self)
    rw [List.cons_append, insertRecord, if_neg later, ih fun y hy => before y (List.mem_cons_of_mem _ hy)]
    rfl

/-- A synthetic record in its place, with its flag and its successor's decided (R62, R69). -/
theorem addSynthetic_eq (queue : s.tracker.queue = front ++ back) (before : ∀ x ∈ front, travelDiff x.b r.b ≤ 0)
    (behind : ∀ y ∈ back.head?, 0 < travelDiff y.b r.b)
    (distinct : ((front ++ r :: back).map LogRecord.id).Nodup) :
    addSynthetic l r s = State.counted { s with
      tracker := { s.tracker with
        queue := front ++ { r with joined := decideJoined l.counts.minGap true front.getLast? r }
          :: rejoinedNext l.counts.minGap
            (some { r with joined := decideJoined l.counts.minGap true front.getLast? r }) back
        nextId := s.tracker.nextId + 1 }
      tables := s.tables.setBank r.bank
        { s.tables.bank r.bank with refs := (s.tables.bank r.bank).refs + 1 } } .logsUnscanned := by
  have bound : bindBank { s with tracker := { s.tracker with
        queue := insertRecord r s.tracker.queue, nextId := s.tracker.nextId + 1 } } r.bank
      = State.holding { s with
          tracker := { s.tracker with nextId := s.tracker.nextId + 1 }
          tables := s.tables.setBank r.bank { s.tables.bank r.bank with refs := (s.tables.bank r.bank).refs + 1 } }
        front r back s.arms := by
    rw [queue, insertRecord_append before behind]
    rfl
  unfold addSynthetic
  dsimp only
  rw [bound, rejoin_holding true (apart_of_nodup distinct) rfl,
    rejoinSuccessor_holding (nodup_around distinct (by rfl) rfl) (by rfl)]
  rfl

/-- A record inserted under a new number. -/
theorem nodup_insert (queue : s.tracker.queue = front ++ back) (distinct : (s.tracker.queue.map LogRecord.id).Nodup)
    (new : ∀ x ∈ s.tracker.queue, x.id < r.id) : ((front ++ r :: back).map LogRecord.id).Nodup := by
  rw [List.map_append, List.map_cons, List.nodup_middle, List.nodup_cons, ← List.map_append, ← queue]
  refine ⟨fun c => ?_, distinct⟩
  obtain ⟨x, hx, same⟩ := List.mem_map.1 c
  exact absurd same (Nat.ne_of_lt (new x hx))

/-- The standing of a synthetic record at the other station (R62, R63). -/
theorem syntheticRecord_other (b : Travel) {j : Station} (other : j ≠ k) (used : l.inUse j = true)
    (tolerance : 0 ≤ l.counts.tolerance) :
    let x := (syntheticRecord s l k b).at j
    x.confirmed = .no ∧ x.measured = false ∧ x.lostPending = false ∧ (x.passedUnseen = true ↔ k = .two)
      ∧ x.standsAt l.counts j none (travelDiff s.travel.t b) := by
  have fresh := freshStanding_standsAt (l := l) (k := j) (len := none) (pos := travelDiff s.travel.t b) tolerance
  cases k with
  | one =>
    cases j with
    | one => exact absurd rfl other
    | two =>
      have second : (syntheticRecord s l .one b).at .two = freshStanding l .two none (travelDiff s.travel.t b) := if_pos used
      rw [second]
      exact ⟨rfl, rfl, rfl, ⟨nofun, nofun⟩, fresh⟩
  | two =>
    cases j with
    | one => exact ⟨rfl, rfl, rfl, ⟨fun _ => rfl, fun _ => rfl⟩, fresh⟩
    | two => exact absurd rfl other

/-! ### A record confirmed by eye (R60) -/

theorem keepsOrder_iff {b : Travel} (apart : Apart front back r.id) :
    keepsOrder r.id b (front ++ r :: back) = true
      ↔ (∀ p ∈ front.getLast?, 0 < travelDiff b p.b) ∧ (∀ y ∈ back.head?, 0 < travelDiff y.b b) := by
  unfold keepsOrder
  rw [predecessor?_append apart.1 rfl apart.2, successor?_append apart.1 rfl, Bool.and_eq_true]
  cases front.getLast? <;> cases back.head? <;> simp

/-- A difference of travel that fits in half the range (R31). -/
theorem travelDiff_back (t : Travel) {n : Int} (low : -8388608 ≤ n) (high : n ≤ 8388607) :
    travelDiff t (travelBack t n) = n := by
  have back : t - (t - BitVec.ofInt 24 n) = BitVec.ofInt 24 n := sub_sub_self _ _
  rw [travelDiff, travelBack, back, BitVec.toInt_ofInt]
  exact Int.bmod_eq_of_le (by omega) (by omega)

/-- The record confirmed by eye (R60). -/
def LogRecord.seenBy (r : LogRecord) (k : Station) : LogRecord := r.setAt k { r.at k with confirmed := .byEye }

theorem seenBy_id (r : LogRecord) (k : Station) : (r.seenBy k).id = r.id := LogRecord.setAt_id r k _

/-- The record rebased to a butt count (R60). -/
def LogRecord.rebasedBy (r : LogRecord) (k : Station) (b : Travel) : LogRecord := { r.seenBy k with b := b }

theorem rebasedBy_id (r : LogRecord) (k : Station) (b : Travel) : (r.rebasedBy k b).id = r.id := seenBy_id r k

theorem update_seenBy (queue : s.tracker.queue = front ++ r :: back) (apart : Apart front back r.id) :
    s.update r.id (fun r => r.setAt k { r.at k with confirmed := .byEye }) = s.holding front (r.seenBy k) back s.arms := by
  have updated := holding_update (s := s) (a := s.arms) apart rfl
    fun r => r.setAt k { r.at k with confirmed := .byEye }
  rwa [holding_self queue] at updated

theorem confirmByEye_of_disordered (queue : s.tracker.queue = front ++ r :: back) (apart : Apart front back r.id)
    (disordered : keepsOrder r.id (travelBack s.travel.t (l.counts.eye.get k)) s.tracker.queue = false) :
    confirmByEye l k r.id s = s.holding front (r.seenBy k) back s.arms := by
  unfold confirmByEye
  dsimp only
  rw [disordered, update_seenBy queue apart]
  rfl

theorem confirmByEye_of_ordered {b : Travel} (here : b = travelBack s.travel.t (l.counts.eye.get k))
    (queue : s.tracker.queue = front ++ r :: back) (distinct : (s.tracker.queue.map LogRecord.id).Nodup)
    (tolerance : 0 ≤ l.counts.tolerance) (ordered : keepsOrder r.id b s.tracker.queue = true)
    (still : (r.rebasedBy k b).still l s.travel.t) :
    let x := (r.rebasedBy k b).rejoined l.counts.minGap front.getLast?
    confirmByEye l k r.id s = s.holding front x (rejoinedNext l.counts.minGap (some x) back) s.arms := by
  intro x
  have own := rebasedBy_id r k b
  rw [queue] at distinct
  have apart := apart_of_nodup distinct
  have moved : (s.holding front (r.seenBy k) back s.arms).update r.id (fun r => { r with b := b })
      = s.holding front (r.rebasedBy k b) back s.arms := holding_update apart (seenBy_id r k) _
  have settled := reevaluate_of_still (s := s.holding front (r.rebasedBy k b) back s.arms) tolerance
    (nodup_around distinct own rfl) (List.mem_append_right _ List.mem_cons_self) still
  rw [own] at settled
  have rejoined := rejoin_holding (s := s) (l := l) (a := s.arms) false apart own
  rw [← rejoined_eq_decideJoined] at rejoined
  unfold confirmByEye
  dsimp only
  rw [← here, ordered, if_pos rfl, update_seenBy queue apart, moved, settled, holding_record? apart own]
  dsimp only
  rw [rejoined]
  exact rejoinSuccessor_holding (nodup_around distinct own rfl) own

end rising

/-! ## Falling edges (R64) -/

section falling

variable {s : State} {l : Line} {k : Station} {front back : List LogRecord} {r : LogRecord}

theorem measurable_iff (k : Station) (x : LogRecord) :
    measurable k x = true ↔ (x.at k).confirmed ≠ .no ∧ (x.at k).measured = false ∧ (x.at k).tracked = true := by
  simp only [measurable, Bool.and_eq_true, bne_iff_ne, Bool.not_eq_true', and_assoc]

theorem fallingEdge_of_nothing (h : s.mode.line = none ∨ (s.mode.line = some l ∧ ¬ (k = .one ∨ l.record.stations = 2))
    ∨ (s.mode.line = some l ∧ (k = .one ∨ l.record.stations = 2)) ∧ ∀ x ∈ s.tracker.queue, ¬ measurable k x = true) :
    fallingEdge k s = s := by
  unfold fallingEdge
  obtain line | ⟨line, unused⟩ | ⟨⟨line, used⟩, none⟩ := h
  · rw [line]
  · rw [line]
    exact if_neg fun c => unused ((l.inUse_iff k).1 c)
  · rw [line]
    dsimp only
    rw [if_pos ((l.inUse_iff k).2 used), List.find?_eq_none.2 fun x hx => none x (List.mem_reverse.1 hx)]

theorem fallingEdge_of_record (line : s.mode.line = some l) (used : k = .one ∨ l.record.stations = 2)
    (queue : s.tracker.queue = front ++ r :: back) (newest : ∀ x ∈ back, ¬ measurable k x = true)
    (own : measurable k r = true) :
    fallingEdge k s = if l.minLength ≤ travelDiff s.travel.t r.b - l.counts.eye.get k
      then measure l k (travelDiff s.travel.t r.b - l.counts.eye.get k) r.id s else s := by
  have found : (front ++ r :: back).reverse.find? (measurable k) = some r := by
    rw [List.reverse_append, List.reverse_cons, List.append_assoc, List.find?_append,
      List.find?_eq_none.2 fun x hx => newest x (List.mem_reverse.1 hx), Option.none_or, List.singleton_append,
      List.find?_cons_of_pos own]
  unfold fallingEdge
  rw [line]
  dsimp only
  rw [if_pos ((l.inUse_iff k).2 used), queue, found]
  rfl

/-- A length formed in counts that is not too short (R56). -/
theorem lengthOfCounts_eq {n : Int} (least : roundDiv (1000 * 1000) l.record.pitch ≤ n)
    (most : roundDiv (1000 * 1000) l.record.pitch ≤ l.counts.maxLength) :
    lengthOfCounts l n = { counts := min n l.counts.maxLength
                           mm := roundDiv (min n l.counts.maxLength * l.record.pitch) 1000 } := by
  have held : clampInt l.minLength l.counts.maxLength n = min n l.counts.maxLength := by
    rw [show l.minLength = roundDiv (1000 * 1000) l.record.pitch from rfl, clampInt_eq_max most]
    omega
  simp only [lengthOfCounts, countsToMm, held]

/-- The record measured at a station (R64). -/
def LogRecord.measuredAt (r : LogRecord) (k : Station) (n : LogLength) : LogRecord :=
  { r with length := some n }.setAt k { r.at k with measured := true }

theorem measuredAt_id (r : LogRecord) (k : Station) (n : LogLength) : (r.measuredAt k n).id = r.id :=
  LogRecord.setAt_id _ k _

theorem measure_of_still {n : Int} (queue : s.tracker.queue = front ++ r :: back)
    (distinct : (s.tracker.queue.map LogRecord.id).Nodup) (tolerance : 0 ≤ l.counts.tolerance)
    (still : (r.measuredAt k (lengthOfCounts l n)).still l s.travel.t) :
    let x := r.measuredAt k (lengthOfCounts l n)
    measure l k n r.id s = s.holding front x (rejoinedNext l.counts.minGap (some x) back) s.arms := by
  intro x
  have own : x.id = r.id := measuredAt_id r k _
  rw [queue] at distinct
  have updated := holding_update (s := s) (a := s.arms) (apart_of_nodup distinct) rfl fun r =>
    ({ r with length := some (lengthOfCounts l n) } : LogRecord).setAt k { r.at k with measured := true }
  rw [holding_self queue] at updated
  have settled := reevaluate_of_still (l := l) (s := s.holding front x (rejoinedNext l.counts.minGap (some x) back) s.arms)
    tolerance (nodup_around distinct own (rejoinedNext_map_id _ _ _)) (List.mem_append_right _ List.mem_cons_self) still
  rw [own] at settled
  unfold measure
  dsimp only
  rw [updated]
  rw [show s.holding front (({ r with length := some (lengthOfCounts l n) } : LogRecord).setAt k
      { r.at k with measured := true }) back s.arms = s.holding front x back s.arms from rfl,
    rejoinSuccessor_holding (nodup_around distinct own rfl) own]
  exact settled

end falling

/-! ## Edges -/

section edges

variable {s : State} {k : Station}

theorem eyeChange_of_same {dark : Bool} (h : (s.inputs.eyes.get k).dark = dark) : eyeChange k dark s = s :=
  if_pos (beq_iff_eq.2 h)

theorem eyeChange_of_rise (light : (s.inputs.eyes.get k).dark = false) (ok : (s.inputs.eyes.get k).fault = false) :
    eyeChange k true s = risingEdge k (s.onEye k (fun e => { e with dark := true, darkSince := some s.travel.t })) := by
  unfold eyeChange eyeRises
  rw [light, ok]
  rfl

theorem eyeChange_of_fall (dark : (s.inputs.eyes.get k).dark = true) (ok : (s.inputs.eyes.get k).fault = false) :
    eyeChange k false s = fallingEdge k (s.onEye k (fun _ => { dark := false, fault := false, darkSince := none })) := by
  unfold eyeChange eyeFalls
  rw [dark, ok]
  rfl

theorem eyeChange_of_repair (dark : (s.inputs.eyes.get k).dark = true) (fault : (s.inputs.eyes.get k).fault = true) :
    eyeChange k false s
      = markFaulted k false (s.onEye k (fun _ => { dark := false, fault := false, darkSince := none })) := by
  unfold eyeChange eyeFalls
  rw [dark, fault]
  rfl

end edges

end Sys2Proof.Machine
end

section
/-! PROOFS. What an eye's edge makes of the logs, assembled (O53). -/

namespace Sys2Proof.Machine

theorem LogRecord.at_rejoined (r : LogRecord) (joined : Bool) (k : Station) :
    ({ r with joined := joined } : LogRecord).at k = r.at k := by
  cases k <;> rfl

theorem syntheticRecord_own (s : State) (l : Line) (k : Station) (b : Travel) :
    (syntheticRecord s l k b).at k = seenStanding := by
  cases k <;> rfl

section still

variable {l : Line} {k : Station} {r : LogRecord}

/-- A candidate rebased to its eye's position stands there, and raises no event (R60). -/
theorem rebasedBy_still {t b : Travel} (here : travelDiff t b = l.counts.eye.get k) (tolerance : 0 ≤ l.counts.tolerance)
    (ahead : l.counts.eye.get k < l.counts.contact.get k) (window : (r.at k).window = .within)
    (contact : (r.at k).contact = .short) (settled : ∀ j, (r.at j).lostPending = false)
    (beside : ∀ j, j ≠ k → l.inUse j = true → (r.at j).standsAt l.counts j r.length (l.counts.eye.get k))
    (unlimited : r.unlimited l (l.counts.eye.get k)) : (r.rebasedBy k b).still l t := by
  have standing : ∀ j, (r.rebasedBy k b).at j = if j = k then { r.at k with confirmed := .byEye } else r.at j :=
    fun j => (show (r.rebasedBy k b).at j = (r.seenBy k).at j from by cases j <;> rfl).trans (LogRecord.at_setAt r j k _)
  have length : (r.rebasedBy k b).length = r.length := LogRecord.setAt_length r k _
  refine ⟨fun j used => ?_, fun j => ?_, fun unknown j used unseen => ?_⟩
  · rw [standing, length, show (r.rebasedBy k b).b = b from rfl, here]
    split
    · next same =>
      subst same
      refine (Standing.standsAt_iff tolerance).2 ⟨?_, ?_⟩
      · rw [windowPos, if_neg (by omega), if_pos (by omega)]
        exact window
      · exact contact.trans (if_pos ahead).symm
    · next other =>
      exact beside j other used
  · rw [standing]
    split
    · exact settled k
    · exact settled j
  · rw [show (r.rebasedBy k b).b = b from rfl, here]
    refine unlimited (length ▸ unknown) j used ?_
    rw [standing] at unseen
    split at unseen
    · next same => exact same ▸ unseen
    · exact unseen

/-- A measured record whose positions are those of its length raises no event (R64). -/
theorem measuredAt_still {t : Travel} {n : LogLength} (settled : ∀ j, (r.at j).lostPending = false)
    (stands : ∀ j, (j = .one ∨ l.record.stations = 2) → (r.at j).standsAt l.counts j (some n) (travelDiff t r.b)) :
    (r.measuredAt k n).still l t := by
  have standing : ∀ j, (r.measuredAt k n).at j = if j = k then { r.at k with measured := true } else r.at j :=
    fun j => (LogRecord.at_setAt _ j k _).trans (by cases j <;> rfl)
  have length : (r.measuredAt k n).length = some n := LogRecord.setAt_length _ k _
  have b : (r.measuredAt k n).b = r.b := LogRecord.setAt_b _ k _
  refine ⟨fun j used => ?_, fun j => ?_, LogRecord.unlimited_of_length length⟩
  · have here := stands j ((l.inUse_iff j).1 used)
    rw [standing, length, b]
    split
    · next same => exact same ▸ here
    · exact here
  · rw [standing]
    split
    · exact settled k
    · exact settled j

end still

/-- Settles O53: no edge; a rising edge without effect, of an unscanned log and of a candidate; a falling edge without
effect, that measures, and that ends a fault. -/
theorem eyeEdgesMarkLogs : Obligations.EyeEdgesMarkLogs := by
  intro s k dark l bank r front back e other eye risen cleared b gap inUse absent present rises falls split isCandidate
    seen unmeasured unseen ordered byEye rebased quiet n least counts long measured queued
  have rise : rises → ∀ {u}, risingEdge k risen = u → exec (.eyeEdge k true) s = .next u :=
    fun h _ edge => congrArg Host.Outcome.next ((eyeChange_of_rise h.1 h.2).trans edge)
  have fall : falls → ∀ {u}, fallingEdge k cleared = u → exec (.eyeEdge k false) s = .next u :=
    fun h _ edge => congrArg Host.Outcome.next ((eyeChange_of_fall h.1 h.2).trans edge)
  have unscanned : present → (∀ x ∈ s.tracker.queue, ¬ isCandidate x) → (∀ x ∈ s.tracker.queue, ¬ seen x) →
      risingEdge k risen = unscannedLog l k risen := fun here none unconfirmed =>
    (risingEdge_of_no_candidate (s := risen) here.1 here.2 fun x hx => mt (candidate_iff k x).1 (none x hx)).trans
      (if_neg fun c => by
        obtain ⟨x, hx, confirmed⟩ := List.any_eq_true.1 c
        exact unconfirmed x hx ((confirmedInWindow_iff k x).1 confirmed))
  have settled : quiet → ∀ j, (r.at j).lostPending = false := fun h j => by cases j <;> [exact h.1; exact h.2]
  have besides : ∀ j, j ≠ k → other = j := fun j h => by
    cases k <;> cases j <;> [exact absurd rfl h; rfl; rfl; exact absurd rfl h]
  refine ⟨fun same => ?_, fun h away => ?_, fun h here none confirmed => ?_, fun h here none noPlace => ?_,
    fun h here new full => ?_, fun h here new room mark tolerance queue before behind distinct fresh => ?_,
    fun h here apart first own disordered => ?_,
    fun h here apart first own order tolerance low high ahead short still beside unlimited => ?_, fun h nothing => ?_,
    fun h here apart newest own few => ?_, fun h here apart newest own enough still tolerance most stands => ?_,
    fun was fault here => ?_, fun was fault away => ?_⟩
  · exact congrArg Host.Outcome.next (eyeChange_of_same same)
  · exact rise h (away.elim (risingEdge_of_no_line (s := risen)) fun away => risingEdge_of_unused (s := risen) away.1 away.2)
  · refine rise h ((risingEdge_of_no_candidate (s := risen) here.1 here.2 fun x hx => mt (candidate_iff k x).1 (none x hx)).trans
      (if_pos ?_))
    obtain ⟨x, hx, own⟩ := confirmed
    exact List.any_eq_true.2 ⟨x, hx, (confirmedInWindow_iff k x).2 own⟩
  · by_cases confirmed : ∃ x ∈ s.tracker.queue, seen x
    · refine rise h ((risingEdge_of_no_candidate (s := risen) here.1 here.2 fun x hx => mt (candidate_iff k x).1 (none x hx)).trans
        (if_pos ?_))
      obtain ⟨x, hx, own⟩ := confirmed
      exact List.any_eq_true.2 ⟨x, hx, (confirmedInWindow_iff k x).2 own⟩
    · exact rise h ((unscanned here none fun x hx own => confirmed ⟨x, hx, own⟩).trans (unscannedLog_of_no_place noPlace))
  · obtain ⟨none, run⟩ := new
    refine rise h ((unscanned here (fun x hx => (none x hx).1) fun x hx => (none x hx).2.1).trans
      ((unscannedLog_of_place (s := risen) run fun x hx => (none x hx).2.2).trans (if_pos full)))
  · obtain ⟨none, run⟩ := new
    let y := syntheticRecord risen l k b
    have bound : y.bank = bank := congrArg (fun m => m.getD .a) mark
    have added := addSynthetic_eq (s := risen) (l := l) (r := y) queue before behind (nodup_insert queue distinct fresh)
    have stored : risen.tables.setBank y.bank { risen.tables.bank y.bank with refs := (risen.tables.bank y.bank).refs + 1 }
        = s.tables.setBank bank { s.tables.bank bank with refs := (s.tables.bank bank).refs + 1 } := by rw [bound]
    rw [stored] at added
    refine ⟨_, rise h ((unscanned here (fun x hx => (none x hx).1) fun x hx => (none x hx).2.1).trans
      ((unscannedLog_of_place (s := risen) run fun x hx => (none x hx).2.2).trans
        ((if_neg (Nat.not_le.2 room)).trans added))), rfl, rfl, rfl, rfl, rfl, rfl, bound, rfl, rfl, rfl, rfl, rfl, rfl,
      ?_, ?_, ?_, ?_, ?_, ?_, fun used => ?_⟩
    · show decideJoined gap true front.getLast? y = _
      cases front.getLast? with
      | none => rfl
      | some p =>
        dsimp only
        cases length : p.length with
        | none => exact decideJoined_unknown (r := y) rfl length
        | some m => exact decideJoined_known (r := y) rfl length
    all_goals rw [LogRecord.at_rejoined]
    · exact congrArg Standing.confirmed (syntheticRecord_own risen l k b)
    · exact congrArg Standing.tracked (syntheticRecord_own risen l k b)
    · exact congrArg Standing.measured (syntheticRecord_own risen l k b)
    · exact congrArg Standing.window (syntheticRecord_own risen l k b)
    · exact congrArg Standing.contact (syntheticRecord_own risen l k b)
    · have away : other ≠ k := by cases k <;> exact nofun
      exact syntheticRecord_other (s := risen) b away ((l.inUse_iff other).2 used) tolerance
  · have keeps : keepsOrder r.id b s.tracker.queue = false := by
      rw [← Bool.not_eq_true, apart.1, keepsOrder_iff (apart_of_nodup (apart.1 ▸ apart.2))]
      exact disordered
    exact rise h ((risingEdge_of_candidate (s := risen) here.1 here.2 apart.1
      (fun x hx => mt (candidate_iff k x).1 (first x hx)) ((candidate_iff k r).2 own)).trans
      (confirmByEye_of_disordered (s := risen) apart.1 (apart_of_nodup (apart.1 ▸ apart.2)) keeps))
  · have keeps : keepsOrder r.id b s.tracker.queue = true := by
      rw [apart.1, keepsOrder_iff (apart_of_nodup (apart.1 ▸ apart.2))]
      exact order
    exact rise h ((risingEdge_of_candidate (s := risen) here.1 here.2 apart.1
      (fun x hx => mt (candidate_iff k x).1 (first x hx)) ((candidate_iff k r).2 own)).trans
      (confirmByEye_of_ordered (s := risen) rfl apart.1 apart.2 tolerance keeps
        (rebasedBy_still (travelDiff_back s.travel.t low high) tolerance ahead own.1 short (settled still)
          (fun j away used => besides j away ▸ beside (besides j away ▸ (l.inUse_iff j).1 used)) unlimited)))
  · refine fall h (fallingEdge_of_nothing (s := cleared) (l := l) ?_)
    obtain (line | away) | ⟨here, none⟩ := nothing
    · exact .inl line
    · exact .inr (.inl away)
    · exact .inr (.inr ⟨here, fun x hx => mt (measurable_iff k x).1 (none x hx)⟩)
  · refine fall h ((fallingEdge_of_record (s := cleared) here.1 here.2 apart.1
      (fun x hx => mt (measurable_iff k x).1 (newest x hx)) ((measurable_iff k r).2 own)).trans (if_neg ?_))
    exact Int.not_le.2 few
  · refine fall h ((fallingEdge_of_record (s := cleared) here.1 here.2 apart.1
      (fun x hx => mt (measurable_iff k x).1 (newest x hx)) ((measurable_iff k r).2 own)).trans ((if_pos enough).trans ?_))
    have length : lengthOfCounts l n = long := lengthOfCounts_eq enough most
    have measured := measure_of_still (s := cleared) (l := l) (k := k) (n := n) apart.1 apart.2 tolerance
      (by rw [length]; exact measuredAt_still (settled still) stands)
    rw [length] at measured
    exact measured
  · refine congrArg Host.Outcome.next ((eyeChange_of_repair was fault).trans ?_)
    exact markFaulted_of_used (s := cleared) here.1 ((l.inUse_iff k).2 here.2) false
  · refine congrArg Host.Outcome.next ((eyeChange_of_repair was fault).trans ?_)
    obtain line | ⟨line, unused⟩ := away
    · unfold markFaulted
      rw [show (s.onEye k _).mode.line = none from line]
      rfl
    · exact markFaulted_of_unused (s := cleared) line (fun c => unused ((l.inUse_iff k).1 c)) false

end Sys2Proof.Machine
end

section
/-! PROOFS. The contact events of a record at a station that follows its machine (R120 to R124, R127), the close of its
window (R66, R67), and its removal (R72), said of the record in focus. -/

namespace Sys2Proof.Machine

/-! ## The station's machine -/

section machine

variable {s : State} {k : Station} {id : Nat} {front back : List LogRecord} {y : LogRecord}

theorem unlocked_of_not_lockout {q : List LogRecord} {a : ArmController} (h : a.stations.get k ≠ .lockout) :
    s.unlocked q k a = a :=
  if_neg fun c => h c.2.1

/-- The station whose log has passed (R122): handed to a joined, confirmed and tracked successor, or IDLE. -/
def ArmController.handedOn (a : ArmController) (k : Station) (behind : Option LogRecord) : ArmController :=
  match behind with
  | some y => if y.joined = true ∧ (y.at k).confirmed ≠ .no ∧ (y.at k).tracked = true
      then { a with stations := a.stations.set k (.engaged y.id) } else a.idled k
  | none => a.idled k

theorem passOn_eq (k : Station) (id : Nat) (s : State) :
    passOn k id s = { s with arms := s.arms.handedOn k (successor? id s.tracker.queue) } := by
  unfold passOn ArmController.handedOn
  cases successor? id s.tracker.queue with
  | none => exact enterIdle_eq_idled k s
  | some y =>
    simp only [Bool.and_eq_true, bne_iff_ne, and_assoc, enterIdle_eq_idled]
    split <;> rfl

/-- The tail passes the contact line (R122, R123, R127). -/
theorem tailPasses_eq (follows : s.follows k = true) (id : Nat) :
    tailPasses k id s = { s with
      arms := if s.arms.stations.get k = .engaged id then s.arms.handedOn k (successor? id s.tracker.queue)
        else s.unlocked s.tracker.queue k s.arms } := by
  unfold tailPasses
  rw [if_pos follows]
  split
  · next x engaged =>
    by_cases own : x = id
    · rw [if_pos (beq_iff_eq.2 own), passOn_eq, if_pos (own ▸ engaged)]
    · rw [if_neg (by simpa using own), if_neg (by rw [engaged]; simpa using own),
        unlocked_of_not_lockout (by rw [engaged]; exact nofun)]
  · next lockout => rw [if_neg (by rw [lockout]; exact nofun), examineLockout_eq_unlocked]
  · next idle => rw [if_neg (by rw [idle]; exact nofun), unlocked_of_not_lockout (by rw [idle]; exact nofun)]

theorem olderThan_append (apart : Apart front back id) (own : y.id = id) (x : Nat) :
    olderThan id x (front ++ y :: back) = back.any (fun z => z.id == x) := by
  obtain ⟨before, -⟩ := apart
  induction front with
  | nil => exact if_pos (beq_iff_eq.2 own)
  | cons z front ih =>
    exact (if_neg (by simpa using before z List.mem_cons_self)).trans
      (ih fun w hw => before w (List.mem_cons_of_mem _ hw))

/-- The record backs out of the station (R124, R127). -/
theorem backsOut_eq (follows : s.follows k = true) (queue : s.tracker.queue = front ++ y :: back)
    (apart : Apart front back id) (own : y.id = id) :
    backsOut k id s = { s with
      arms := if s.arms.stations.get k = .engaged id ∨ ∃ z ∈ back, s.arms.stations.get k = .engaged z.id
        then s.arms.idled k else s.unlocked s.tracker.queue k s.arms } := by
  unfold backsOut
  rw [if_pos follows]
  split
  · next x engaged =>
    have younger : (x == id || olderThan id x s.tracker.queue) = true
        ↔ s.arms.stations.get k = .engaged id ∨ ∃ z ∈ back, s.arms.stations.get k = .engaged z.id := by
      rw [queue, olderThan_append apart own, engaged]
      simp only [Bool.or_eq_true, beq_iff_eq, List.any_eq_true, StationState.engaged.injEq]
      exact or_congr_right (exists_congr fun z => and_congr_right fun _ => eq_comm)
    by_cases h : (x == id || olderThan id x s.tracker.queue) = true
    · rw [if_pos h, if_pos (younger.1 h), enterIdle_eq_idled]
    · rw [if_neg h, if_neg (mt younger.2 h), unlocked_of_not_lockout (by rw [engaged]; exact nofun)]
  · next lockout => rw [if_neg (by rw [lockout]; simp), examineLockout_eq_unlocked]
  · next idle => rw [if_neg (by rw [idle]; simp), unlocked_of_not_lockout (by rw [idle]; exact nofun)]

/-- The butt reaches the contact line of an IDLE station at speed (R120). -/
theorem buttReaches_of_free (follows : s.follows k = true) (confirmed : (y.at k).confirmed ≠ .no)
    (tracked : (y.at k).tracked = true) (idle : s.arms.stations.get k = .idle)
    (speed : (s.inputs.rotors.get k).under = false) :
    buttReaches k y s = s.setStation k (.engaged y.id) :=
  if_pos (by simp [follows, confirmed, tracked, idle, speed])

/-- Any other station stays as it is (R121). -/
theorem buttReaches_of_busy (h : s.arms.stations.get k ≠ .idle ∨ (s.inputs.rotors.get k).under = true) :
    buttReaches k y s = s := by
  refine if_neg fun c => ?_
  simp only [Bool.and_eq_true, beq_iff_eq, Bool.not_eq_true'] at c
  obtain ⟨⟨⟨⟨-, idle⟩, -⟩, -⟩, speed⟩ := c
  exact h.elim (fun h => h idle) fun h => Bool.false_ne_true (speed.symm.trans h)

end machine

/-! ## A record's step at the station where its standing changes -/

/-- The record with both of its positions at a station judged (R57, R58). -/
def LogRecord.placed (l : Line) (t : Travel) (k : Station) (x : LogRecord) : LogRecord :=
  x.setAt k { x.at k with
    window := windowPos l.counts k (travelDiff t x.b), contact := contactPos l.counts k x.length (travelDiff t x.b) }

theorem LogRecord.windowed_contacted (l : Line) (t : Travel) (k : Station) (x : LogRecord) :
    (x.windowed l t k).contacted l t k = x.placed l t k := by
  unfold LogRecord.contacted LogRecord.windowed LogRecord.placed
  rw [LogRecord.setAt_at, LogRecord.setAt_setAt, LogRecord.setAt_b, LogRecord.setAt_length]

/-- Two records alike but for the standing at a station and the joined flags. -/
structure LogRecord.LikeAside (x y : LogRecord) (k : Station) : Prop where
  id : y.id = x.id
  bank : y.bank = x.bank
  b : y.b = x.b
  length : y.length = x.length
  aside : ∀ j, j ≠ k → y.at j = x.at j

theorem LogRecord.setAt_likeAside (x : LogRecord) (k : Station) (y : Standing) : x.LikeAside (x.setAt k y) k :=
  ⟨LogRecord.setAt_id x k y, LogRecord.setAt_bank x k y, LogRecord.setAt_b x k y, LogRecord.setAt_length x k y,
    fun j h => (LogRecord.at_setAt x j k y).trans (if_neg h)⟩

section steps

variable {s : State} {l : Line} {k : Station} {id : Nat} {front back : List LogRecord} {x : LogRecord} {a : ArmController}

/-- With the window not closing, the contact change is the whole of it (R58, R59). -/
theorem stationStep_of_open (apart : Apart front back id) (own : x.id = id)
    (open_ : windowCloses (x.at k) (windowPos l.counts k (travelDiff s.travel.t x.b)) = false)
    (tracked : (x.at k).tracked = true) :
    stationStep l id k (s.holding front x back a, .stays) =
      (let e := contactEvents k (x.windowed l s.travel.t k) (x.at k).contact
          (contactPos l.counts k x.length (travelDiff s.travel.t x.b))
          (s.holding front (x.placed l s.travel.t k) back a)
       (e.1, if e.2 && k == l.last then .completed else .stays)) := by
  have at_windowed : (x.windowed l s.travel.t k).at k =
      { x.at k with window := windowPos l.counts k (travelDiff s.travel.t x.b) } := LogRecord.setAt_at _ _ _
  have windowed : windowStep l k id (s.holding front x back a)
      = (s.holding front (x.windowed l s.travel.t k) back a, .stays) := by
    rw [windowStep_holding l k apart own, if_neg (by rw [open_]; exact Bool.false_ne_true)]
  have length : (x.windowed l s.travel.t k).length = x.length := LogRecord.setAt_length _ _ _
  have b : (x.windowed l s.travel.t k).b = x.b := LogRecord.setAt_b _ _ _
  simp only [stationStep, windowed, beq_self_eq_true, if_true]
  rw [contactStep_holding (x := x.windowed l s.travel.t k) l k apart ((LogRecord.setAt_id _ _ _).trans own), at_windowed, if_pos (by exact tracked),
    LogRecord.windowed_contacted, length, b]

/-- No contact event: the record takes its new contact position. -/
theorem contactStep_of_same (apart : Apart front back id) (own : x.id = id)
    (same : (x.at k).contact = contactPos l.counts k x.length (travelDiff s.travel.t x.b)) :
    contactStep l k id (s.holding front x back a) = (s.holding front x back a, .stays) := by
  have contacted : x.contacted l s.travel.t k = x := by rw [LogRecord.contacted, ← same, LogRecord.setAt_self]
  rw [contactStep_holding l k apart own, ← same, contactEvents_self, contacted]
  exact ite_self _

/-- The window closes on an eye dark or faulted (R66). -/
theorem closeWindow_of_dark (apart : Apart front back id) (own : x.id = id)
    (dark : (s.inputs.eyes.get k).dark = true ∨ s.tracker.faulted.get k = true) :
    closeWindow k id (s.holding front x back a) = (s.holding front
      (predicted ((s.inputs.eyes.get k).dark && !(s.inputs.eyes.get k).fault) front.getLast?.isSome k x) back a, .stays) := by
  have before : predecessor? id (s.holding front x back a).tracker.queue = front.getLast? :=
    predecessor?_append apart.1 own apart.2
  unfold closeWindow
  dsimp only
  rw [if_pos (by exact Bool.or_eq_true_iff.2 dark), before, holding_update apart own]
  rfl

/-- The window closes on a clear eye with a station ENGAGED with the record (R67). -/
theorem closeWindow_of_engaged (apart : Apart front back id) (own : x.id = id)
    (clear : ¬ (s.inputs.eyes.get k).dark = true) (good : ¬ s.tracker.faulted.get k = true)
    (engaged : ∃ j, a.stations.get j = .engaged id) :
    closeWindow k id (s.holding front x back a)
      = (s.holding front (x.setAt k { x.at k with lostPending := true }) back a, .stays) := by
  unfold closeWindow
  dsimp only
  rw [if_neg (by exact fun c => (Bool.or_eq_true_iff.1 c).elim clear good),
    if_pos ((isEngaged_iff _ id).2 engaged), holding_update apart own]

/-- The window closes on a clear eye with no station ENGAGED with the record (R67). -/
theorem closeWindow_of_lost (clear : ¬ (s.inputs.eyes.get k).dark = true) (good : ¬ s.tracker.faulted.get k = true)
    (free : ¬ ∃ j, s.arms.stations.get j = .engaged id) : closeWindow k id s = (s, .lost) := by
  unfold closeWindow
  dsimp only
  rw [if_neg (fun c => (Bool.or_eq_true_iff.1 c).elim clear good), if_neg (mt (isEngaged_iff _ id).1 free)]

/-- The step at a station where the window closes. -/
theorem stationStep_of_close (apart : Apart front back id) (own : x.id = id)
    (closes : windowCloses (x.at k) (windowPos l.counts k (travelDiff s.travel.t x.b)) = true) {u : State} {f : Fate}
    (closed : closeWindow k id (s.holding front (x.windowed l s.travel.t k) back a) = (u, f)) :
    stationStep l id k (s.holding front x back a, .stays) = if f == .stays then contactStep l k id u else (u, f) := by
  have windowed : windowStep l k id (s.holding front x back a) = (u, f) := by
    rw [windowStep_holding l k apart own, if_pos closes, closed]
  simp only [stationStep, windowed, beq_self_eq_true, if_true]

/-! ## The record's handling, from its length limit to its removal (R59) -/

/-- What stands around a record that meets a station: the line record in force, distinct numbers, and nothing to be
done with it at the other station. -/
structure State.Meets (s : State) (l : Line) (k : Station) (front : List LogRecord) (x : LogRecord)
    (back : List LogRecord) : Prop where
  tolerance : 0 ≤ l.counts.tolerance
  used : k = .one ∨ l.record.stations = 2
  distinct : ((front ++ x :: back).map LogRecord.id).Nodup
  beside : ∀ j, j ≠ k → l.inUse j = true → (x.at j).standsAt l.counts j x.length (travelDiff s.travel.t x.b)

theorem foldl_used {β : Type} {f : β → Station → β} {v : β} (used : k = .one ∨ l.record.stations = 2)
    (before : ∀ j, j ≠ k → l.inUse j = true → f v j = v)
    (after : ∀ j, j ≠ k → l.inUse j = true → f (f v k) j = f v k) : l.used.foldl f v = f v k := by
  unfold Line.used
  split
  · next two =>
    cases k with
    | one => exact after .two nofun two
    | two => exact congrArg (fun w => f w .two) (before .one nofun rfl)
  · next one =>
    cases used with
    | inl first => exact first ▸ rfl
    | inr second => exact absurd (beq_iff_eq.2 second) one

/-- The record's handling is its step at the station it meets, and its removal. -/
theorem reevaluate_of_meets {u : State} {v : State × Fate} (meets : s.Meets l k front x back) (own : x.id = id)
    (limit : limitLength l id u = s.holding front x back a)
    (step : stationStep l id k (s.holding front x back a, .stays) = v)
    (kept : v.2 ≠ .stays ∨ ∃ y b, v = (s.holding front y back b, .stays) ∧ x.LikeAside y k) :
    reevaluate l u id = settleFate l id v := by
  have apart : Apart front back id := own ▸ apart_of_nodup meets.distinct
  unfold reevaluate
  rw [limit, foldl_used (f := fun a k => stationStep l id k a) meets.used
    (fun j other used => stationStep_of_stands meets.tolerance apart own (meets.beside j other used)) ?_, step]
  intro j other used
  simp only [step]
  obtain ends | ⟨y, b, rfl, like⟩ := kept
  · exact if_neg (by simpa using ends)
  · refine stationStep_of_stands meets.tolerance apart (like.id.trans own) ?_
    rw [like.aside j other, like.length, like.b]
    exact meets.beside j other used

/-- A removal looks at the record's number and bank alone (R72). -/
theorem holding_without {r y : LogRecord} (own : y.id = r.id) (bank : y.bank = r.bank) (left : List LogRecord) :
    (s.holding front x back a).without y left = ({ s with arms := a } : State).without r left := by
  unfold State.without
  rw [own, bank]
  rfl

theorem settleFate_removed {r y : LogRecord} (distinct : ((front ++ y :: back).map LogRecord.id).Nodup)
    (own : y.id = r.id) (bank : y.bank = r.bank) (why : Removal) {c : Counter} (counter : why.counter? = some c) :
    removeRecord l r.id why (s.holding front y back a)
      = State.counted (({ s with arms := a } : State).without r (leftBy l why front back)) c := by
  have removed := removeRecord_eq_without (s := s.holding front y back a) l why rfl distinct
  rw [counter, own] at removed
  exact removed.trans ((counted_without _ c y _).trans (congrArg (State.counted · c) (holding_without own bank _)))

/-- A record of which no loss is pending, or with which a station is ENGAGED, stays (R68). -/
theorem settleFate_kept {y : LogRecord} (apart : Apart front back id) (own : y.id = id)
    (h : y.pendingLoss = false ∨ ∃ j, a.stations.get j = .engaged id) :
    settleFate l id (s.holding front y back a, .stays) = s.holding front y back a := by
  obtain settled | engaged := h
  · subst own
    exact releasePending_of_not_pending (holding_record? apart rfl) settled
  · exact releasePending_of_engaged engaged

end steps

end Sys2Proof.Machine
end

section
/-! PROOFS. One count of travel that changes the standing of one record at one station (R57 to R72): O54. -/

namespace Sys2Proof.Machine

/-! ## The other records -/

section others

variable {s : State} {l : Line} {t : Travel}

theorem rejoined_still {r : LogRecord} (h : r.still l t) (gap : Int) (p : Option LogRecord) : (r.rejoined gap p).still l t := by
  obtain ⟨stands, settled, unlimited⟩ := h
  have standing : ∀ k, (r.rejoined gap p).at k = r.at k := fun k => by cases k <;> rfl
  have length : (r.rejoined gap p).length = r.length := rfl
  have b : (r.rejoined gap p).b = r.b := rfl
  refine ⟨fun k used => ?_, fun k => ?_, fun unknown k used unseen => ?_⟩
  · rw [standing, length, b]
    exact stands k used
  · rw [standing]
    exact settled k
  · rw [standing] at unseen
    rw [length] at unknown
    rw [b]
    exact unlimited unknown k used unseen

theorem rejoinedNext_still {q : List LogRecord} (h : ∀ y ∈ q, y.still l t) (gap : Int) (p : Option LogRecord) :
    ∀ y ∈ rejoinedNext gap p q, y.still l t := by
  intro z hz
  cases q with
  | nil => exact absurd hz List.not_mem_nil
  | cons y q =>
    rw [rejoinedNext, List.mem_cons] at hz
    obtain rfl | hz := hz
    · exact rejoined_still (h y List.mem_cons_self) gap p
    · exact h z (List.mem_cons_of_mem _ hz)

/-- A number that no record has any longer. -/
theorem reevaluate_of_missing {id : Nat} (missing : s.record? id = none) : reevaluate l s id = s := by
  have step : ∀ k, stationStep l id k (s, .stays) = (s, .stays) := fun k => by
    simp only [stationStep, windowStep, contactStep, missing, beq_self_eq_true, if_true]
  have stations : ∀ ks : List Station, ks.foldl (fun a k => stationStep l id k a) (s, .stays) = (s, .stays) := fun ks => by
    induction ks with
    | nil => rfl
    | cons k ks ih => rw [List.foldl_cons, step, ih]
  have limit : limitLength l id s = s := by simp only [limitLength, missing]
  unfold reevaluate
  rw [limit, stations]
  show releasePending l id s = s
  simp only [releasePending, missing]

theorem foldl_reevaluate_of_still (tolerance : 0 ≤ l.counts.tolerance) (distinct : (s.tracker.queue.map LogRecord.id).Nodup)
    {ids : List Nat} (still : ∀ y ∈ s.tracker.queue, y.id ∈ ids → y.still l s.travel.t) :
    ids.foldl (reevaluate l) s = s := by
  induction ids with
  | nil => rfl
  | cons id ids ih =>
    have unchanged : reevaluate l s id = s := by
      cases found : s.record? id with
      | none => exact reevaluate_of_missing found
      | some y =>
        have named : y.id = id := by simpa using List.find?_some found
        subst named
        exact reevaluate_of_still tolerance distinct (List.mem_of_find?_eq_some found)
          (still y (List.mem_of_find?_eq_some found) List.mem_cons_self)
    rw [List.foldl_cons, unchanged, ih fun y hy here => still y hy (List.mem_cons_of_mem _ here)]

/-- A count of travel that changes one record alone comes to that record's handling. -/
theorem travelChanged_of_one {front back : List LogRecord} {r : LogRecord} {v : State} (line : s.mode.line = some l)
    (tolerance : 0 ≤ l.counts.tolerance) (queue : s.tracker.queue = front ++ r :: back)
    (distinct : (s.tracker.queue.map LogRecord.id).Nodup) (still : ∀ y ∈ front ++ back, y.still l s.travel.t)
    (handled : reevaluate l s r.id = v)
    (left : (v.tracker.queue.map LogRecord.id).Sublist (s.tracker.queue.map LogRecord.id))
    (rest : ∀ y ∈ v.tracker.queue, y.id ≠ r.id → y.still l s.travel.t) : travelChanged s = v := by
  have travel : v.travel = s.travel := handled ▸ (reevaluate_logFrame l s r.id).travel
  have apart := distinct_around (queue ▸ distinct)
  have older : (front.map LogRecord.id).foldl (reevaluate l) s = s := by
    refine foldl_reevaluate_of_still tolerance distinct fun y hy here => ?_
    rw [queue, List.mem_append, List.mem_cons] at hy
    obtain hy | rfl | hy := hy
    · exact still y (List.mem_append_left _ hy)
    · obtain ⟨z, hz, same⟩ := List.mem_map.1 here
      exact absurd same (apart.1 z hz)
    · exact still y (List.mem_append_right _ hy)
  have younger : (back.map LogRecord.id).foldl (reevaluate l) v = v := by
    refine foldl_reevaluate_of_still tolerance (distinct.sublist left) fun y hy here => ?_
    obtain ⟨z, hz, same⟩ := List.mem_map.1 here
    rw [travel]
    exact rest y hy fun own => apart.2.1 z hz (same.trans own)
  unfold travelChanged
  rw [line]
  dsimp only
  rw [queue, List.map_append, List.map_cons, List.foldl_append, older, List.foldl_cons, handled, younger]

end others

/-! ## The length limit (R70) -/

/-- The record at its length limit. -/
theorem limitLength_of_reached {s : State} {l : Line} {front back : List LogRecord} {r : LogRecord} {a : ArmController}
    (distinct : ((front ++ r :: back).map LogRecord.id).Nodup)
    (most : roundDiv (1000 * 1000) l.record.pitch ≤ l.counts.maxLength)
    (reached : atLengthLimit l (travelDiff s.travel.t r.b) r = true) :
    let x := { r with length := some { counts := l.counts.maxLength
                                       mm := roundDiv (l.counts.maxLength * l.record.pitch) 1000 } }
    limitLength l r.id (s.holding front r back a) = s.holding front x (rejoinedNext l.counts.minGap (some x) back) a := by
  intro x
  have apart := apart_of_nodup distinct
  have longest := lengthOfCounts_eq (l := l) (n := l.counts.maxLength) most most
  rw [min_self] at longest
  unfold limitLength
  rw [holding_record? apart rfl]
  dsimp only
  rw [if_pos (by exact reached), longest, holding_update apart rfl]
  exact rejoinSuccessor_holding (nodup_around distinct (by rfl) rfl) (by rfl)

/-! ## The step of a record at its station -/

section meeting

variable {s : State} {l : Line} {k : Station} {front back : List LogRecord} {x : LogRecord} {a : ArmController} {id : Nat}

theorem not_windowCloses {x : Standing} (confirmed : x.confirmed ≠ .no) (now : WindowPos) : windowCloses x now = false := by
  simp [windowCloses, confirmed]

theorem placed_eq {t : Travel} {c : ContactPos} (contact : contactPos l.counts k x.length (travelDiff t x.b) = c) :
    x.placed l t k = x.setAt k
      { x.at k with window := windowPos l.counts k (travelDiff t x.b), contact := c } := by
  rw [LogRecord.placed, contact]

theorem contactPos_of_butt {c : Counts} {len : Option LogLength} {pos : Int} (reached : c.contact.get k ≤ pos)
    (inside : ∀ n, len = some n → pos < c.contact.get k + n.counts) : contactPos c k len pos = .on := by
  rw [contactPos.eq_def, if_neg (Int.not_lt.2 reached)]
  cases len with
  | none => rfl
  | some n => exact if_pos (inside n rfl)

theorem contactPos_of_tail {c : Counts} {len : Option LogLength} {pos : Int} (reached : c.contact.get k ≤ pos)
    (passed : ∃ n, len = some n ∧ c.contact.get k + n.counts ≤ pos) : contactPos c k len pos = .clear := by
  obtain ⟨n, rfl, passed⟩ := passed
  rw [contactPos.eq_def, if_neg (Int.not_lt.2 reached)]
  exact if_neg (Int.not_lt.2 passed)

theorem contactPos_of_back {c : Counts} {len : Option LogLength} {pos : Int} (short : pos < c.contact.get k) :
    contactPos c k len pos = .short :=
  if_pos short

/-- The station after the tail of a record has passed it (R122, R123, R127). -/
def State.tailed (s : State) (k : Station) (id : Nat) (queue : List LogRecord) (behind : Option LogRecord)
    (a : ArmController) : ArmController :=
  if a.stations.get k = .engaged id then a.handedOn k behind else s.unlocked queue k a

/-- The station after a record has backed out of it (R124, R127). -/
def State.backedOut (s : State) (k : Station) (id : Nat) (queue back : List LogRecord) (a : ArmController) : ArmController :=
  if a.stations.get k = .engaged id ∨ ∃ z ∈ back, a.stations.get k = .engaged z.id then a.idled k
  else s.unlocked queue k a

section confirmed

variable (apart : Apart front back id) (own : x.id = id) (confirmed : (x.at k).confirmed ≠ .no)
  (tracked : (x.at k).tracked = true)
include apart own confirmed tracked

/-- A confirmed record's step is its contact event. -/
theorem stationStep_of_contact {was now : ContactPos} (before : (x.at k).contact = was)
    (after : contactPos l.counts k x.length (travelDiff s.travel.t x.b) = now) {u : State} {passes : Bool}
    (event : contactEvents k (x.windowed l s.travel.t k) was now (s.holding front (x.placed l s.travel.t k) back a)
      = (u, passes)) :
    stationStep l id k (s.holding front x back a, .stays)
      = (u, if passes && k == l.last then .completed else .stays) := by
  rw [stationStep_of_open apart own (not_windowCloses confirmed _) tracked, before, after, event]

theorem stationStep_of_butt (follows : s.follows k = true) (before : (x.at k).contact = .short)
    (after : contactPos l.counts k x.length (travelDiff s.travel.t x.b) = .on)
    (idle : a.stations.get k = .idle) (speed : (s.inputs.rotors.get k).under = false) :
    stationStep l id k (s.holding front x back a, .stays) = (s.holding front (x.placed l s.travel.t k) back
      { a with stations := a.stations.set k (.engaged id) }, .stays) := by
  have named : (x.windowed l s.travel.t k).id = id := (LogRecord.setAt_id _ _ _).trans own
  have here : (x.windowed l s.travel.t k).at k =
      { x.at k with window := windowPos l.counts k (travelDiff s.travel.t x.b) } := LogRecord.setAt_at _ _ _
  refine stationStep_of_contact apart own confirmed tracked before after (passes := false) (congrArg (·, false) ?_)
  rw [buttReaches_of_free (by exact follows) (by rw [here]; exact confirmed) (by rw [here]; exact tracked) (by exact idle)
    (by exact speed), named]
  rfl

theorem stationStep_of_butt_busy (before : (x.at k).contact = .short)
    (after : contactPos l.counts k x.length (travelDiff s.travel.t x.b) = .on)
    (busy : a.stations.get k ≠ .idle ∨ (s.inputs.rotors.get k).under = true) :
    stationStep l id k (s.holding front x back a, .stays) = (s.holding front (x.placed l s.travel.t k) back a, .stays) :=
  stationStep_of_contact apart own confirmed tracked before after (passes := false)
    (congrArg (·, false) (buttReaches_of_busy (by exact busy)))

theorem stationStep_of_tail (follows : s.follows k = true) (before : (x.at k).contact = .on)
    (after : contactPos l.counts k x.length (travelDiff s.travel.t x.b) = .clear) :
    stationStep l id k (s.holding front x back a, .stays) = (s.holding front (x.placed l s.travel.t k) back
      (s.tailed k id (front ++ x.placed l s.travel.t k :: back) back.head? a),
        if k = l.last then .completed else .stays) := by
  have named : (x.windowed l s.travel.t k).id = id := (LogRecord.setAt_id _ _ _).trans own
  have placed : (x.placed l s.travel.t k).id = id := (LogRecord.setAt_id _ _ _).trans own
  have behind : successor? id (s.holding front (x.placed l s.travel.t k) back a).tracker.queue = back.head? :=
    successor?_append apart.1 placed
  have event : contactEvents k (x.windowed l s.travel.t k) .on .clear (s.holding front (x.placed l s.travel.t k) back a)
      = (s.holding front (x.placed l s.travel.t k) back
          (s.tailed k id (front ++ x.placed l s.travel.t k :: back) back.head? a), true) := by
    show (tailPasses k (x.windowed l s.travel.t k).id _, true) = _
    rw [named, tailPasses_eq (by exact follows), behind]
    rfl
  rw [stationStep_of_contact apart own confirmed tracked before after event]
  simp only [Bool.true_and, beq_iff_eq]

theorem stationStep_of_back (follows : s.follows k = true) (before : (x.at k).contact ≠ .short)
    (after : contactPos l.counts k x.length (travelDiff s.travel.t x.b) = .short) :
    stationStep l id k (s.holding front x back a, .stays) = (s.holding front (x.placed l s.travel.t k) back
      (s.backedOut k id (front ++ x.placed l s.travel.t k :: back) back a), .stays) := by
  have named : (x.windowed l s.travel.t k).id = id := (LogRecord.setAt_id _ _ _).trans own
  have placed : (x.placed l s.travel.t k).id = id := (LogRecord.setAt_id _ _ _).trans own
  have backs : backsOut k (x.windowed l s.travel.t k).id (s.holding front (x.placed l s.travel.t k) back a)
      = s.holding front (x.placed l s.travel.t k) back
          (s.backedOut k id (front ++ x.placed l s.travel.t k :: back) back a) := by
    rw [named, backsOut_eq (by exact follows) (by rfl) apart placed]
    rfl
  refine stationStep_of_contact apart own confirmed tracked rfl after (passes := false) ?_
  cases was : (x.at k).contact with
  | short => exact absurd was before
  | on => exact congrArg (·, false) backs
  | clear => exact congrArg (·, false) backs

end confirmed

/-! ### The window closes (R66, R67) -/

theorem windowCloses_of_past {x : Standing} {c : Counts} {pos : Int} (tolerance : 0 ≤ c.tolerance)
    (unconfirmed : x.confirmed = .no) (before : x.window ≠ .past) (tracked : x.tracked = true)
    (passed : c.eye.get k + c.tolerance < pos) :
    windowPos c k pos = .past ∧ windowCloses x (windowPos c k pos) = true := by
  have past : windowPos c k pos = .past := by
    unfold windowPos
    rw [if_neg (by omega), if_neg (by omega)]
  exact ⟨past, by simp [windowCloses, past, unconfirmed, before, tracked]⟩

section closing

variable (apart : Apart front back id) (own : x.id = id)
  (closes : windowCloses (x.at k) (windowPos l.counts k (travelDiff s.travel.t x.b)) = true)
  (contact : (x.at k).contact = contactPos l.counts k x.length (travelDiff s.travel.t x.b))
include apart own closes

theorem stationStep_of_lost (clear : ¬ (s.inputs.eyes.get k).dark = true) (good : ¬ s.tracker.faulted.get k = true)
    (free : ¬ ∃ j, a.stations.get j = .engaged id) :
    stationStep l id k (s.holding front x back a, .stays)
      = (s.holding front (x.windowed l s.travel.t k) back a, .lost) :=
  stationStep_of_close apart own closes (closeWindow_of_lost (by exact clear) (by exact good) (by exact free))

include contact

/-- Where the record stays, its contact position is what it was. -/
theorem stationStep_of_close_stays {y : LogRecord} (like : x.LikeAside y k) (same : (y.at k).contact = (x.at k).contact)
    (closed : closeWindow k id (s.holding front (x.windowed l s.travel.t k) back a) = (s.holding front y back a, .stays)) :
    stationStep l id k (s.holding front x back a, .stays) = (s.holding front y back a, .stays) := by
  rw [stationStep_of_close apart own closes closed]
  refine contactStep_of_same apart (like.id.trans own) ?_
  rw [same, like.length, like.b]
  exact contact

end closing

end meeting

end Sys2Proof.Machine
end

section
/-! PROOFS. A record that meets its station, by what it meets there (R57 to R72): O54 assembled. -/

namespace Sys2Proof.Machine

/-! ## The outcomes of a record's handling -/

/-- A record r that meets a station in the state m, where x is the record after its length limit. -/
structure State.Handles (m : State) (l : Line) (k : Station) (front : List LogRecord) (r x : LogRecord)
    (back : List LogRecord) : Prop where
  meets : m.Meets l k front x back
  own : x.id = r.id
  bank : x.bank = r.bank
  limit : limitLength l r.id m = m.holding front x back m.arms

section handled

variable {m : State} {l : Line} {k : Station} {front back : List LogRecord} {r x y : LogRecord} {b : ArmController}

theorem State.Handles.apart (h : m.Handles l k front r x back) : Apart front back r.id :=
  h.own ▸ apart_of_nodup h.meets.distinct

theorem handled_stays (h : m.Handles l k front r x back) (like : x.LikeAside y k)
    (settled : y.pendingLoss = false ∨ ∃ j, b.stations.get j = .engaged r.id)
    (step : stationStep l r.id k (m.holding front x back m.arms, .stays) = (m.holding front y back b, .stays)) :
    reevaluate l m r.id = m.holding front y back b :=
  (reevaluate_of_meets h.meets h.own h.limit step (.inr ⟨y, b, rfl, like⟩)).trans
    (settleFate_kept h.apart (like.id.trans h.own) settled)

/-- A record that is lost or completes leaves the queue (R67, R71). -/
theorem handled_removed (h : m.Handles l k front r x back) (like : x.LikeAside y k) (why : Removal) {c : Counter}
    (counter : why.counter? = some c) {fate : Fate} (ends : fate ≠ .stays)
    (removes : ∀ u, settleFate l r.id (u, fate) = removeRecord l r.id why u)
    (step : stationStep l r.id k (m.holding front x back m.arms, .stays) = (m.holding front y back b, fate)) :
    reevaluate l m r.id = State.counted (({ m with arms := b } : State).without r (leftBy l why front back)) c :=
  (reevaluate_of_meets h.meets h.own h.limit step (.inl ends)).trans ((removes _).trans
    (settleFate_removed (nodup_around h.meets.distinct like.id rfl) (like.id.trans h.own) (like.bank.trans h.bank) why
      counter))

/-- A lost-pending record that no station is ENGAGED with any longer leaves the queue (R68). -/
theorem handled_released (h : m.Handles l k front r x back) (like : x.LikeAside y k) (pending : y.pendingLoss = true)
    (free : ∀ j, b.stations.get j ≠ .engaged r.id)
    (step : stationStep l r.id k (m.holding front x back m.arms, .stays) = (m.holding front y back b, .stays)) :
    reevaluate l m r.id = State.counted (({ m with arms := b } : State).without r (front ++ back)) .logsLost := by
  have own := like.id.trans h.own
  have released := releasePending_of_pending (s := m.holding front y back b) (l := l) rfl
    (nodup_around h.meets.distinct like.id rfl) pending (by rw [own]; exact free)
  rw [own] at released
  exact (reevaluate_of_meets h.meets h.own h.limit step (.inr ⟨y, b, rfl, like⟩)).trans
    (released.trans (congrArg (State.counted · _) (holding_without own (like.bank.trans h.bank) _)))

end handled

/-! ## Standings and stations after the step -/

section after

variable {l : Line} {k : Station} {x y : LogRecord} {t : Travel} {a : ArmController} {id : Nat}

theorem placed_likeAside (l : Line) (t : Travel) (k : Station) (x : LogRecord) : x.LikeAside (x.placed l t k) k :=
  LogRecord.setAt_likeAside x k _

theorem placed_lostPending (l : Line) (t : Travel) (k j : Station) (x : LogRecord) :
    ((x.placed l t k).at j).lostPending = (x.at j).lostPending := by
  rw [LogRecord.placed, LogRecord.at_setAt]
  split
  · next same => rw [same]
  · rfl

theorem not_lostPending {x : Standing} (tracked : x.tracked = true) : x.lostPending = false := by
  simp only [Standing.tracked, Bool.and_eq_true, Bool.not_eq_true'] at tracked
  exact tracked.1

theorem not_pendingLoss {x : LogRecord} (h : ∀ j, (x.at j).lostPending = false) : x.pendingLoss = false := by
  rw [← Bool.not_eq_true, pendingLoss_iff]
  exact fun ⟨j, pending⟩ => Bool.false_ne_true ((h j).symm.trans pending)

theorem predicted_likeAside (forced before : Bool) (k : Station) (x : LogRecord) :
    x.LikeAside (predicted forced before k x) k := by
  have same := predicted_sameLog forced before k x
  refine ⟨same.id, same.bank, same.b, ?_, fun j other => (predicted_at forced before j k x).trans (if_neg other)⟩
  unfold predicted
  dsimp only
  split <;> exact LogRecord.setAt_length _ _ _

theorem windowed_likeAside (l : Line) (t : Travel) (k : Station) (x : LogRecord) : x.LikeAside (x.windowed l t k) k :=
  LogRecord.setAt_likeAside x k _

theorem predicted_windowed_contact (forced before : Bool) (l : Line) (t : Travel) (k : Station) (x : LogRecord) :
    ((predicted forced before k (x.windowed l t k)).at k).contact = (x.at k).contact := by
  rw [predicted_at, if_pos rfl, LogRecord.windowed, LogRecord.setAt_at]

theorem predicted_windowed_lostPending (forced before : Bool) (l : Line) (t : Travel) (k j : Station) (x : LogRecord) :
    ((predicted forced before k (x.windowed l t k)).at j).lostPending = (x.at j).lostPending := by
  rw [predicted_at]
  split
  · next same => rw [same, LogRecord.windowed, LogRecord.setAt_at]
  · next other => rw [(windowed_likeAside l t k x).aside j other]

theorem LogRecord.LikeAside.trans {z : LogRecord} (h : x.LikeAside y k) (g : y.LikeAside z k) : x.LikeAside z k :=
  ⟨g.id.trans h.id, g.bank.trans h.bank, g.b.trans h.b, g.length.trans h.length,
    fun j other => (g.aside j other).trans (h.aside j other)⟩

/-- The record confirmed by prediction, with the join not forced (R66). -/
theorem predicted_unforced (before : Bool) (k : Station) (x : LogRecord) (y : Standing) :
    predicted false before k (x.setAt k y) = x.setAt k { y with confirmed := .byPrediction } := by
  unfold predicted
  dsimp only
  rw [if_neg Bool.false_ne_true, LogRecord.setAt_at, LogRecord.setAt_setAt]

/-- The record confirmed by prediction, with the join forced (R66). -/
theorem predicted_forced (before : Bool) (k : Station) (x : LogRecord) (y : Standing) :
    predicted true before k (x.setAt k y)
      = ({ x with joinForced := true, joined := before } : LogRecord).setAt k { y with confirmed := .byPrediction } := by
  cases k <;> rfl

theorem last_iff (used : k = .one ∨ l.record.stations = 2) : k = l.last ↔ k = .two ∨ l.record.stations ≠ 2 := by
  unfold Line.last
  by_cases two : l.record.stations = 2
  · simp [two]
  · simp [two, used.resolve_right two]

theorem idled_stations (a : ArmController) (k : Station) : (a.idled k).stations = a.stations.set k .idle := by
  unfold ArmController.idled
  split
  · next idle => rw [← idle, Pair.set_get]
  · rfl

/-- A station set to something else leaves no station ENGAGED with the record it held. -/
theorem set_free {p : Pair StationState} {z : StationState} (other : z ≠ .engaged id)
    (free : ∀ j, j ≠ k → p.get j ≠ .engaged id) (j : Station) : (p.set k z).get j ≠ .engaged id := by
  rw [Pair.get_set]
  split
  · exact other
  · next away => exact free j away

theorem handedOn_free {behind : Option LogRecord} (others : ∀ z ∈ behind, z.id ≠ id)
    (free : ∀ j, j ≠ k → a.stations.get j ≠ .engaged id) (j : Station) :
    (a.handedOn k behind).stations.get j ≠ .engaged id := by
  have idle : (a.idled k).stations.get j ≠ .engaged id := idled_stations a k ▸ set_free (z := .idle) nofun free j
  unfold ArmController.handedOn
  cases behind with
  | none => exact idle
  | some z =>
    dsimp only
    split
    · exact set_free (fun c => others z rfl (StationState.engaged.inj c)) free j
    · exact idle

end after

/-- The record after its length limit (R70), and the records behind it then. -/
structure State.Limits (m : State) (l : Line) (front : List LogRecord) (r : LogRecord) (back : List LogRecord)
    (x : LogRecord) (after : List LogRecord) : Prop where
  own : x.id = r.id
  b : x.b = r.b
  bank : x.bank = r.bank
  standing : ∀ j, x.at j = r.at j
  ids : after.map LogRecord.id = back.map LogRecord.id
  behind : ∀ y ∈ after, y.still l m.travel.t
  limit : limitLength l r.id m = m.holding front x after m.arms

section limits

variable {m : State} {l : Line} {front back after : List LogRecord} {r x : LogRecord}

theorem limits_of_reached (queue : m.tracker.queue = front ++ r :: back)
    (distinct : ((front ++ r :: back).map LogRecord.id).Nodup)
    (most : roundDiv (1000 * 1000) l.record.pitch ≤ l.counts.maxLength) (behind : ∀ y ∈ back, y.still l m.travel.t)
    (reached : atLengthLimit l (travelDiff m.travel.t r.b) r = true)
    (longer : x = { r with length := some { counts := l.counts.maxLength
                                            mm := roundDiv (l.counts.maxLength * l.record.pitch) 1000 } })
    (joins : after = rejoinedNext l.counts.minGap (some x) back) : m.Limits l front r back x after := by
  subst longer joins
  have limit := limitLength_of_reached (a := m.arms) distinct most reached
  rw [holding_self queue] at limit
  exact ⟨rfl, rfl, rfl, fun j => by cases j <;> rfl, rejoinedNext_map_id _ _ _, rejoinedNext_still behind _ _, limit⟩

theorem limits_of_unlimited (queue : m.tracker.queue = front ++ r :: back)
    (distinct : ((front ++ r :: back).map LogRecord.id).Nodup) (behind : ∀ y ∈ back, y.still l m.travel.t)
    (unlimited : r.unlimited l (travelDiff m.travel.t r.b)) : m.Limits l front r back r back := by
  have limit := limitLength_of_unlimited (a := m.arms) (apart_of_nodup distinct) rfl unlimited
  rw [holding_self queue] at limit
  exact ⟨rfl, rfl, rfl, fun _ => rfl, rfl, behind, limit.trans (holding_self queue).symm⟩

end limits

/-- A legal transition that changes one record alone is the count and that record's handling (R30, R57). -/
theorem exec_of_handled {s v : State} {up : Bool} {l : Line} {front back : List LogRecord} {r : LogRecord}
    (line : s.mode.line = some l) (ok : s.travel.failed = false) (lowA : s.travel.lineA = false)
    (lowB : s.travel.lineB = false) (tolerance : 0 ≤ l.counts.tolerance) (queue : s.tracker.queue = front ++ r :: back)
    (distinct : (s.tracker.queue.map LogRecord.id).Nodup)
    (still : ∀ y ∈ front ++ back, y.still l (s.stepped up up (!up)).travel.t)
    (clear : ∀ j, ¬ (s.inputs.eyes.get j).blockedAt s.mode.line (s.stepped up up (!up)).travel.t)
    (handled : reevaluate l (s.stepped up up (!up)) r.id = v)
    (left : (v.tracker.queue.map LogRecord.id).Sublist (s.tracker.queue.map LogRecord.id))
    (rest : ∀ y ∈ v.tracker.queue, y.id ≠ r.id → y.still l (s.stepped up up (!up)).travel.t) :
    exec (.encoderTransition up (!up)) s = .next v := by
  have changes : travelChanged (s.stepped up up (!up)) = v :=
    travelChanged_of_one (s := s.stepped up up (!up)) line tolerance queue distinct still handled left rest
  have frame := reevaluate_logFrame l (s.stepped up up (!up)) r.id
  rw [handled] at frame
  have unblocked : ∀ j, ¬ (v.inputs.eyes.get j).blockedAt v.mode.line v.travel.t := fun j => by
    rw [frame.inputs, frame.line, frame.travel]
    exact clear j
  have kind : transition s.travel.lineA s.travel.lineB up (!up) = Transition.ofDirection up := by
    rw [lowA, lowB]
    cases up <;> rfl
  refine congrArg Host.Outcome.next ((encoderChange_of_legal kind).trans ((legalTransition_eq ok up).trans ?_))
  rw [changes, checkEyes_of_clear unblocked]

theorem without_queue (s : State) (r : LogRecord) (left : List LogRecord) : (s.without r left).tracker.queue = left := by
  unfold State.without
  dsimp only
  split <;> rfl

/-- Settles O54: the record's handling by what it meets, among records that stay as they stand. -/
theorem recordsMeetTheStation : Obligations.RecordsMeetTheStation := by
  intro s up r r0 front back after l k t moved answers pos ends inUse other last x window changed becomes removed station
    held cleared backed handed tailed out limited longest moves free butts tails backs closes dark faulted engaged
  rintro ⟨works, line, used, ok, lowA, lowB, queue, distinct, tolerance, most, still, clear, beside, reached, unreached⟩
  have around : ((front ++ r :: back).map LogRecord.id).Nodup := queue ▸ distinct
  have besides : ∀ j, j ≠ k → other = j := fun j h => by
    cases k <;> cases j <;> [exact absurd rfl h; rfl; rfl; exact absurd rfl h]
  obtain ⟨own, b, bank, standing, ids, behind, limit⟩ : moved.Limits l front r back r0 after := by
    have behind : ∀ y ∈ back, y.still l moved.travel.t := fun y hy => still y (List.mem_append_right _ hy)
    by_cases limits : limited
    · obtain ⟨longer, joins⟩ := reached limits
      exact limits_of_reached (m := moved) queue around most behind ((atLengthLimit_iff l pos r).2 limits) longer joins
    · obtain ⟨rfl, rfl⟩ := unreached limits
      exact limits_of_unlimited (m := moved) queue around behind fun unknown j used unseen =>
        Int.not_le.1 fun past => limits ⟨unknown, j, (l.inUse_iff j).1 used, unseen, past⟩
  have position : travelDiff moved.travel.t r0.b = pos := by rw [b]
  have handles : moved.Handles l k front r r0 after :=
    { own := own, bank := bank, limit := limit
      meets :=
        { tolerance := tolerance, used := used, distinct := nodup_around around own ids
          beside := fun j away inUse => by
            rw [standing, position]
            exact besides j away ▸ beside (besides j away ▸ (l.inUse_iff j).1 inUse) } }
  have answered : ∀ {v}, reevaluate l moved r.id = v →
      (v.tracker.queue.map LogRecord.id).Sublist (s.tracker.queue.map LogRecord.id) →
      (∀ y ∈ v.tracker.queue, y.id ≠ r.id → y.still l t) → answers v :=
    exec_of_handled line ok lowA lowB tolerance queue distinct still clear
  have becomesAt : ∀ {y a}, r0.LikeAside y k → reevaluate l moved r.id = moved.holding front y after a →
      answers (moved.holding front y after a) := by
    intro y a like handled
    have numbers : ((moved.holding front y after a).tracker.queue.map LogRecord.id) = s.tracker.queue.map LogRecord.id := by
      rw [queue]
      simp only [State.holding, List.map_append, List.map_cons, like.id, own, ids]
    refine answered handled (numbers ▸ List.Sublist.refl _) fun z hz away => ?_
    obtain hz | hz := List.mem_append.1 hz
    · exact still z (List.mem_append_left _ hz)
    · obtain rfl | hz := List.mem_cons.1 hz
      · exact absurd (like.id.trans own) away
      · exact behind z hz
  have removedAt : ∀ {a left c}, reevaluate l moved r.id = removed a left c →
      left.map LogRecord.id = (front ++ back).map LogRecord.id → (∀ y ∈ left, y.still l t) →
      answers (removed a left c) := by
    intro a left c handled numbers rest
    have leaves : (removed a left c).tracker.queue = left := without_queue _ r left
    refine answered handled ?_ fun z hz _ => rest z (leaves ▸ hz)
    rw [leaves, numbers, queue]
    exact ((List.sublist_cons_self r back).append_left front).map LogRecord.id
  have goneAt : ∀ {a c}, reevaluate l moved r.id = removed a (front ++ after) c → answers (removed a (front ++ after) c) :=
    fun handled => removedAt handled (by rw [List.map_append, List.map_append, ids]) fun y hy =>
      (List.mem_append.1 hy).elim (fun hy => still y (List.mem_append_left _ hy)) (behind y)
  have follows : moved.follows k = true := follows_of_works (s := moved) works line used
  have tail_eq : moved.tailed k r.id (changed cleared) after.head? s.arms = tailed := by
    cases after <;> rfl
  have settled : free → ∀ j, (r0.at j).lostPending = false := fun h j => by
    by_cases here : j = k
    · exact here ▸ not_lostPending h.2
    · rw [standing, ← besides j here]
      exact h.1
  have keeps : free → (r0.placed l moved.travel.t k).pendingLoss = false := fun h =>
    not_pendingLoss fun j => (placed_lostPending l _ k j r0).trans (settled h j)
  have placed : ∀ {c}, contactPos l.counts k r0.length (travelDiff moved.travel.t r0.b) = c →
      r0.placed l moved.travel.t k = r0.setAt k { x with contact := c, window := window } := by
    intro c h
    have placed := placed_eq h
    rw [position] at placed
    exact placed
  have placedLike := placed_likeAside l moved.travel.t k r0
  have butt : butts → contactPos l.counts k r0.length (travelDiff moved.travel.t r0.b) = .on := fun h =>
    position.symm ▸ contactPos_of_butt h.2.1 h.2.2
  have tail : tails → contactPos l.counts k r0.length (travelDiff moved.travel.t r0.b) = .clear := fun h =>
    position.symm ▸ contactPos_of_tail h.2.1 h.2.2
  have back : backs → contactPos l.counts k r0.length (travelDiff moved.travel.t r0.b) = .short := fun h =>
    position.symm ▸ contactPos_of_back h.2
  have stays : ∀ {c a}, free → contactPos l.counts k r0.length (travelDiff moved.travel.t r0.b) = c →
      stationStep l r.id k (moved.holding front r0 after s.arms, .stays)
        = (moved.holding front (r0.placed l moved.travel.t k) after a, .stays) →
      answers (becomes { x with contact := c } a) := by
    intro c a free contact step
    have handled := handled_stays handles placedLike (.inl (keeps free)) step
    rw [placed contact] at handled placedLike
    exact becomesAt placedLike handled
  have passes : x.tracked = true → x.confirmed ≠ .no → tails → _ := fun tracked confirmed h =>
    stationStep_of_tail (s := moved) (a := s.arms) handles.apart own confirmed tracked follows h.1 (tail h)
  have backsAway : x.tracked = true → x.confirmed ≠ .no → backs → _ := fun tracked confirmed h =>
    stationStep_of_back (s := moved) (a := s.arms) handles.apart own confirmed tracked follows h.1 (back h)
  have shut : free → closes → windowPos l.counts k (travelDiff moved.travel.t r0.b) = .past
      ∧ windowCloses (r0.at k) (windowPos l.counts k (travelDiff moved.travel.t r0.b)) = true
      ∧ (r0.at k).contact = contactPos l.counts k r0.length (travelDiff moved.travel.t r0.b) := fun free h => by
    obtain ⟨unconfirmed, before, passed, short, ahead⟩ := h
    rw [position]
    obtain ⟨past, shuts⟩ := windowCloses_of_past tolerance unconfirmed before free.2 passed
    exact ⟨past, shuts, short.trans (contactPos_of_back ahead).symm⟩
  have windowed : r0.windowed l moved.travel.t k = r0.setAt k { x with window := window } := by
    rw [LogRecord.windowed, position]
    rfl
  have covers : free → closes → dark ∨ faulted → answers (moved.holding front
      (predicted ((s.inputs.eyes.get k).dark && !(s.inputs.eyes.get k).fault) front.getLast?.isSome k
        (r0.setAt k { x with window := window })) after s.arms) := fun free h covered => by
    obtain ⟨-, shuts, contact⟩ := shut free h
    have like := (windowed_likeAside l moved.travel.t k r0).trans (predicted_likeAside
      ((s.inputs.eyes.get k).dark && !(s.inputs.eyes.get k).fault) front.getLast?.isSome k _)
    have closed := closeWindow_of_dark (s := moved) (a := s.arms) handles.apart
      ((windowed_likeAside l moved.travel.t k r0).id.trans own) covered
    have step := stationStep_of_close_stays handles.apart own shuts contact like (predicted_windowed_contact ..) closed
    have handled := handled_stays handles like
      (.inl (not_pendingLoss fun j => (predicted_windowed_lostPending ..).trans (settled free j))) step
    rw [windowed] at handled like
    exact becomesAt like handled
  have lost : k = .one → r.at2.lostPending = true → (r0.placed l moved.travel.t k).pendingLoss = true := fun first pending =>
    (pendingLoss_iff _).2 ⟨.two, (placed_lostPending l _ k .two r0).trans (standing .two ▸ pending)⟩
  have not_last : k = .one → l.record.stations = 2 → ¬ last := fun first two final =>
    final.elim (fun second => nomatch first.symm.trans second) fun one => one two
  refine ⟨fun free confirmed h => ⟨fun idle speed => ?_, fun busy => ?_⟩, fun free confirmed h goesOn => ?_,
    fun free confirmed h final => ?_, fun free confirmed h => ?_, fun free h covered => ⟨fun dark good => ?_, fun plain => ?_⟩,
    fun free h light good holds => ?_, fun free h light good loose => ?_, fun first two pending tracked confirmed alone =>
      ⟨fun h => ?_, fun h => ?_⟩⟩
  · exact stays free (butt h) (stationStep_of_butt (s := moved) (a := s.arms) handles.apart own confirmed free.2 follows
      h.1 (butt h) idle speed)
  · exact stays free (butt h) (stationStep_of_butt_busy (s := moved) (a := s.arms) handles.apart own confirmed free.2 h.1
      (butt h) busy)
  · have step := passes free.2 confirmed h
    rw [if_neg (mt (last_iff used).1 goesOn), placed (tail h)] at step
    rw [← tail_eq]
    exact stays free (tail h) ((placed (tail h)).symm ▸ step)
  · have step := passes free.2 confirmed h
    rw [if_pos ((last_iff used).2 final)] at step
    have handled := handled_removed handles placedLike .completed rfl (fate := .completed) nofun (fun _ => rfl) step
    rw [placed (tail h)] at handled
    rw [← tail_eq]
    exact goneAt handled
  · have step := backsAway free.2 confirmed h
    rw [placed (back h)] at step
    exact stays free (back h) ((placed (back h)).symm ▸ step)
  · have forced : ((s.inputs.eyes.get k).dark && !(s.inputs.eyes.get k).fault) = true := by
      rw [show (s.inputs.eyes.get k).dark = true from dark, good]
      rfl
    have before : front.getLast?.isSome = !front.isEmpty := by cases front <;> simp
    have past : window = .past := (congrArg (windowPos l.counts k) position).symm.trans (shut free h).1
    have joins := covers free h covered
    rw [forced, before, predicted_forced, past] at joins
    exact joins
  · have unforced : ((s.inputs.eyes.get k).dark && !(s.inputs.eyes.get k).fault) = false := by
      obtain light | fault := plain
      · rw [Bool.eq_false_iff.2 light]
        rfl
      · rw [fault]
        exact Bool.and_false _
    have joins := covers free h covered
    rw [unforced, predicted_unforced] at joins
    exact joins
  · obtain ⟨-, shuts, contact⟩ := shut free h
    have closed := closeWindow_of_engaged (s := moved) (a := s.arms) handles.apart
      ((windowed_likeAside l moved.travel.t k r0).id.trans own) light good holds
    have like := (windowed_likeAside l moved.travel.t k r0).trans (LogRecord.setAt_likeAside _ k
      { (r0.windowed l moved.travel.t k).at k with lostPending := true })
    have step := stationStep_of_close_stays handles.apart own shuts contact like
      (by rw [LogRecord.setAt_at, windowed, LogRecord.setAt_at]) closed
    have handled := handled_stays handles like (.inr holds) step
    rw [windowed, LogRecord.setAt_setAt, LogRecord.setAt_at] at handled like
    exact becomesAt like handled
  · obtain ⟨-, shuts, contact⟩ := shut free h
    have step := stationStep_of_lost (s := moved) (a := s.arms) handles.apart own shuts light good loose
    have handled := handled_removed handles (windowed_likeAside l moved.travel.t k r0) .lost rfl (fate := .lost) nofun
      (fun _ => rfl) step
    refine removedAt handled ?_ ?_
    · rw [List.map_append, rejoinedNext_map_id, ids, List.map_append]
    · intro y hy
      exact (List.mem_append.1 hy).elim (fun hy => still y (List.mem_append_left _ hy))
        (rejoinedNext_still behind _ _ y)
  · have step := passes tracked confirmed h
    rw [if_neg (mt (last_iff used).1 (not_last first two))] at step
    have handled := handled_released handles placedLike (lost first pending) ?_ step
    · rw [placed (tail h)] at handled
      rw [← tail_eq]
      exact goneAt handled
    · intro j
      rw [State.tailed, if_pos ((alone k).2 first)]
      exact handedOn_free (fun z hz same => (distinct_around handles.meets.distinct).2.1 z (List.mem_of_mem_head? hz)
        (same.trans own.symm)) (fun j away c => away ((alone j).1 c ▸ first.symm)) j
  · have step := backsAway tracked confirmed h
    have handled := handled_released handles placedLike (lost first pending) ?_ step
    · rw [placed (back h)] at handled
      exact goneAt handled
    · intro j
      rw [State.backedOut, if_pos (.inl ((alone k).2 first)), idled_stations]
      exact set_free (z := .idle) nofun (fun j away c => away ((alone j).1 c ▸ first.symm)) j

end Sys2Proof.Machine
end
